-- ==== Sys2Proof/Word.lean ====
section
/-! DEFINITION. The words of the machine and their plainest arithmetic: the 32-bit register word, the pixel byte, and the
notation of spec/00_scope.md rules R8 and R9 (trunc_32, s32, sgn, the arithmetic shift). -/

namespace Sys2Proof

/-- A register or command word: 32 bits (spec/00_scope.md R7, `REG_BITS`). -/
abbrev Word := BitVec 32

/-- A pixel or colour: "a single byte" (spec/00_scope.md R7, `PIXEL_BITS`, `COLOR_BITS`). -/
abbrev Byte := BitVec 8

/-- `trunc_32(v)`: the low 32 bits of the integer `v` (R8). -/
def trunc32 (v : Int) : Word := BitVec.ofInt 32 v

/-- `s32(v)`: a 32-bit pattern read as a signed integer (R8). -/
def s32 (v : Word) : Int := v.toInt

end Sys2Proof
end

