-- ==== Sys2Proof/Syntax.lean ====
section
/-! DEFINITION. The command set DLH-RAST 1.0 (spec/00_scope.md R2): one constructor for each row of spec/opcode_table.json.
A command carries what its command word carries (spec/30_encoding.md R91 to R93), its other operands are in `A0` to `A3`. -/

namespace Sys2Proof

/-- One command of the block (spec/30_encoding.md R96). `c` is the field COLOR, `c2` the field COLOR2; a reserved
opcode keeps the 24 bits that its format X does not examine. Each docstring gives the source's own name (R102). -/
inductive Instr where
  /-- ADDR: `address(x, y)`, R147. -/
  | addr
  /-- SETPIX: `setPixel(x, y, color)`, R148. -/
  | setpix (c : Byte)
  /-- GETPIX: `getPixel(x, y)`, R149. -/
  | getpix
  /-- SGN: `unitStep(magnitude)`, R150. -/
  | sgn
  /-- VLINE: `drawVLine`, R163. -/
  | vline (c : Byte)
  /-- HLINE: `drawHLine`, R164. -/
  | hline (c : Byte)
  /-- LINE: `drawLine`, R167. -/
  | line (c : Byte)
  /-- VLINEA: `drawVLineAbsolute`, R165. -/
  | vlinea (c : Byte)
  /-- HLINEA: `drawHLineAbsolute`, R166. -/
  | hlinea (c : Byte)
  /-- LINEA: `drawLineAbsolute`, R168. -/
  | linea (c : Byte)
  /-- RECT: `drawRectangleOutline`, R183. -/
  | rect (c : Byte)
  /-- FRECT: `drawFilledRectangle`, R184. -/
  | frect (c : Byte)
  /-- ORECT: `drawOutlinedRectangle`, R185; `c` is the outline colour, `c2` the fill colour. -/
  | orect (c c2 : Byte)
  /-- RECTA: `drawRectangleOutlineAbsolute`, R186. -/
  | recta (c : Byte)
  /-- FRECTA: `drawFilledRectangleAbsolute`, R187. -/
  | frecta (c : Byte)
  /-- ORECTA: `drawOutlinedRectangleAbsolute`, R188. -/
  | orecta (c c2 : Byte)
  /-- BUILDTAB: `buildTable()`, R200. -/
  | buildtab
  /-- CIRCLE: `drawCircleOutline`, R210. -/
  | circle (c : Byte)
  /-- TABRD: reads one TrigTable entry, R202. -/
  | tabrd
  /-- CIRCLEA: `drawCircleOutlineAbsolute`, R211. -/
  | circlea (c : Byte)
  /-- FCIRCLE: reserved for `drawFilledCircle`, always illegal, R213. -/
  | fcircle (rest : BitVec 24)
  /-- ELLIPSE: reserved for `drawEllipseOutline`, always illegal, R213. -/
  | ellipse (rest : BitVec 24)
  /-- FELLIPSE: reserved for `drawFilledEllipse`, always illegal, R213. -/
  | fellipse (rest : BitVec 24)
  /-- ITOFX: integer to fixed point, R123. -/
  | itofx
  /-- FXTOI: fixed point to integer, R124. -/
  | fxtoi
  /-- FXMUL: fixed-point multiply, R125. -/
  | fxmul
  /-- FXDIV: fixed-point divide, R126. -/
  | fxdiv
  deriving DecidableEq, Repr

end Sys2Proof
end

