-- ==== Sys2Proof/WellFormed.lean ====
section
/-! DEFINITION. Which commands are legal. The fields of `Instr` are exactly as wide as the word's (a colour is any byte,
spec/30_encoding.md R93), so the one check left is R95's: a reserved opcode is illegal whatever its other bits. -/

namespace Sys2Proof

/-- R95, R97 (b): every command but the three reserved ones is legal. -/
def Instr.wellFormed : Instr → Bool
  | .addr => true
  | .setpix _ => true
  | .getpix => true
  | .sgn => true
  | .vline _ => true
  | .hline _ => true
  | .line _ => true
  | .vlinea _ => true
  | .hlinea _ => true
  | .linea _ => true
  | .rect _ => true
  | .frect _ => true
  | .orect _ _ => true
  | .recta _ => true
  | .frecta _ => true
  | .orecta _ _ => true
  | .buildtab => true
  | .circle _ => true
  | .tabrd => true
  | .circlea _ => true
  | .fcircle _ => false
  | .ellipse _ => false
  | .fellipse _ => false
  | .itofx => true
  | .fxtoi => true
  | .fxmul => true
  | .fxdiv => true

end Sys2Proof
end

