-- ==== Sys2Proof/Decode.lean ====
section
/-! DEFINITION. Decoding a command word (spec/30_encoding.md R95), total on all 2^32 words and rejecting by name, and the
encoder beside it (R91, R92, R96). -/

namespace Sys2Proof

/-- The field OP, bits 7:0 (R91). -/
def opField (w : Word) : Byte := w.extractLsb' 0 8

/-- The field COLOR, bits 15:8 (R91). -/
def colorField (w : Word) : Byte := w.extractLsb' 8 8

/-- The field COLOR2, bits 23:16 (R91). -/
def color2Field (w : Word) : Byte := w.extractLsb' 16 8

/-- The field RSV, bits 31:24 (R91). -/
def rsvField (w : Word) : Byte := w.extractLsb' 24 8

/-- The 24 bits above OP, which format X does not examine (R92). -/
def restField (w : Word) : BitVec 24 := w.extractLsb' 8 24

/-- Why a word is illegal (R97 (a) and (c)); the reserved opcodes of R97 (b) are commands whose meaning is the same error.
The names, and which is named first, are the model's (DESIGN CHOICE, safe: log entry 9). -/
inductive Illegal where
  /-- R97 (a): OP is not in the opcode map. -/
  | unlistedOpcode
  /-- R97 (c): RSV is not 0. -/
  | reservedNonzero
  /-- R97 (c): COLOR2 is not 0 in a format that does not use it. -/
  | color2Nonzero
  /-- R97 (c): COLOR is not 0 in a format that does not use it. -/
  | colorNonzero
  deriving DecidableEq, Repr

/-- What a word denotes: exactly one command, or nothing (R95). -/
inductive Decoded where
  | ok (i : Instr)
  | illegal (why : Illegal)
  deriving DecidableEq, Repr

/-- Format CC (R92): RSV must be 0. -/
def decodeCC (w : Word) (mk : Byte → Byte → Instr) : Decoded :=
  if rsvField w ≠ 0 then .illegal .reservedNonzero else .ok (mk (colorField w) (color2Field w))

/-- Format C (R92): RSV and COLOR2 must be 0. -/
def decodeC (w : Word) (mk : Byte → Instr) : Decoded :=
  if rsvField w ≠ 0 then .illegal .reservedNonzero
  else if color2Field w ≠ 0 then .illegal .color2Nonzero
  else .ok (mk (colorField w))

/-- Format N (R92): RSV, COLOR2 and COLOR must be 0. -/
def decodeN (w : Word) (i : Instr) : Decoded :=
  if rsvField w ≠ 0 then .illegal .reservedNonzero
  else if color2Field w ≠ 0 then .illegal .color2Nonzero
  else if colorField w ≠ 0 then .illegal .colorNonzero
  else .ok i

/-- R95: decoding by the opcode map of R96. -/
def decode (w : Word) : Decoded :=
  match (opField w).toNat with
  | 0x10 => decodeN w .addr
  | 0x11 => decodeC w .setpix
  | 0x12 => decodeN w .getpix
  | 0x13 => decodeN w .sgn
  | 0x20 => decodeC w .vline
  | 0x21 => decodeC w .hline
  | 0x22 => decodeC w .line
  | 0x24 => decodeC w .vlinea
  | 0x25 => decodeC w .hlinea
  | 0x26 => decodeC w .linea
  | 0x30 => decodeC w .rect
  | 0x31 => decodeC w .frect
  | 0x32 => decodeCC w .orect
  | 0x34 => decodeC w .recta
  | 0x35 => decodeC w .frecta
  | 0x36 => decodeCC w .orecta
  | 0x40 => decodeN w .buildtab
  | 0x41 => decodeC w .circle
  | 0x42 => decodeN w .tabrd
  | 0x45 => decodeC w .circlea
  | 0x48 => .ok (.fcircle (restField w))
  | 0x49 => .ok (.ellipse (restField w))
  | 0x4A => .ok (.fellipse (restField w))
  | 0x50 => decodeN w .itofx
  | 0x51 => decodeN w .fxtoi
  | 0x52 => decodeN w .fxmul
  | 0x53 => decodeN w .fxdiv
  | _ => .illegal .unlistedOpcode

/-- The instruction of an opcode-table row's word, bit 0 the least significant bit of the one 32-bit command word; every
bit from `nbits` up is 0. -/
def decodeTableWord (nbits w : Nat) : Option Instr :=
  match decode (BitVec.ofNat 32 (w % 2 ^ nbits)) with
  | .ok i => some i
  | .illegal _ => none

/-- A word of format CC: `OP + (c << 8) + (c2 << 16)` (R101). -/
def wordCC (op c c2 : Byte) : Word := (0 : Byte) ++ c2 ++ c ++ op

/-- A word of format C: `OP + (c << 8)` (R101). -/
def wordC (op c : Byte) : Word := wordCC op c 0

/-- A word of format N: `OP` alone (R101). -/
def wordN (op : Byte) : Word := wordCC op 0 0

/-- A word of format X: `OP` with any 24 bits above it (R92). -/
def wordX (op : Byte) (rest : BitVec 24) : Word := rest ++ op

/-- The command word of a command, from the opcode map (R96). -/
def encode : Instr → Word
  | .addr => wordN 0x10
  | .setpix c => wordC 0x11 c
  | .getpix => wordN 0x12
  | .sgn => wordN 0x13
  | .vline c => wordC 0x20 c
  | .hline c => wordC 0x21 c
  | .line c => wordC 0x22 c
  | .vlinea c => wordC 0x24 c
  | .hlinea c => wordC 0x25 c
  | .linea c => wordC 0x26 c
  | .rect c => wordC 0x30 c
  | .frect c => wordC 0x31 c
  | .orect c c2 => wordCC 0x32 c c2
  | .recta c => wordC 0x34 c
  | .frecta c => wordC 0x35 c
  | .orecta c c2 => wordCC 0x36 c c2
  | .buildtab => wordN 0x40
  | .circle c => wordC 0x41 c
  | .tabrd => wordN 0x42
  | .circlea c => wordC 0x45 c
  | .fcircle rest => wordX 0x48 rest
  | .ellipse rest => wordX 0x49 rest
  | .fellipse rest => wordX 0x4A rest
  | .itofx => wordN 0x50
  | .fxtoi => wordN 0x51
  | .fxmul => wordN 0x52
  | .fxdiv => wordN 0x53

/-- A row of the opcode map: the value of `w AND mask` that selects it (R96). -/
structure OpcodeRow where
  mnemonic : String
  pattern : Word
  mask : Word
  deriving DecidableEq, Repr

/-- The opcode map of R96, row by row, with the masks of R92. -/
def opcodeTable : List OpcodeRow := [
  ⟨"ADDR", 0x00000010, 0xFFFFFFFF⟩, ⟨"SETPIX", 0x00000011, 0xFFFF00FF⟩,
  ⟨"GETPIX", 0x00000012, 0xFFFFFFFF⟩, ⟨"SGN", 0x00000013, 0xFFFFFFFF⟩,
  ⟨"VLINE", 0x00000020, 0xFFFF00FF⟩, ⟨"HLINE", 0x00000021, 0xFFFF00FF⟩,
  ⟨"LINE", 0x00000022, 0xFFFF00FF⟩, ⟨"VLINEA", 0x00000024, 0xFFFF00FF⟩,
  ⟨"HLINEA", 0x00000025, 0xFFFF00FF⟩, ⟨"LINEA", 0x00000026, 0xFFFF00FF⟩,
  ⟨"RECT", 0x00000030, 0xFFFF00FF⟩, ⟨"FRECT", 0x00000031, 0xFFFF00FF⟩,
  ⟨"ORECT", 0x00000032, 0xFF0000FF⟩, ⟨"RECTA", 0x00000034, 0xFFFF00FF⟩,
  ⟨"FRECTA", 0x00000035, 0xFFFF00FF⟩, ⟨"ORECTA", 0x00000036, 0xFF0000FF⟩,
  ⟨"BUILDTAB", 0x00000040, 0xFFFFFFFF⟩, ⟨"CIRCLE", 0x00000041, 0xFFFF00FF⟩,
  ⟨"TABRD", 0x00000042, 0xFFFFFFFF⟩, ⟨"CIRCLEA", 0x00000045, 0xFFFF00FF⟩,
  ⟨"FCIRCLE", 0x00000048, 0x000000FF⟩, ⟨"ELLIPSE", 0x00000049, 0x000000FF⟩,
  ⟨"FELLIPSE", 0x0000004A, 0x000000FF⟩, ⟨"ITOFX", 0x00000050, 0xFFFFFFFF⟩,
  ⟨"FXTOI", 0x00000051, 0xFFFFFFFF⟩, ⟨"FXMUL", 0x00000052, 0xFFFFFFFF⟩,
  ⟨"FXDIV", 0x00000053, 0xFFFFFFFF⟩]

/-- A word selects a row exactly when `(w AND mask) == match` (R92). -/
def OpcodeRow.selects (row : OpcodeRow) (w : Word) : Bool := w &&& row.mask == row.pattern

/-- The mnemonic of a command (R96, R102). -/
def Instr.mnemonic : Instr → String
  | .addr => "ADDR"
  | .setpix _ => "SETPIX"
  | .getpix => "GETPIX"
  | .sgn => "SGN"
  | .vline _ => "VLINE"
  | .hline _ => "HLINE"
  | .line _ => "LINE"
  | .vlinea _ => "VLINEA"
  | .hlinea _ => "HLINEA"
  | .linea _ => "LINEA"
  | .rect _ => "RECT"
  | .frect _ => "FRECT"
  | .orect _ _ => "ORECT"
  | .recta _ => "RECTA"
  | .frecta _ => "FRECTA"
  | .orecta _ _ => "ORECTA"
  | .buildtab => "BUILDTAB"
  | .circle _ => "CIRCLE"
  | .tabrd => "TABRD"
  | .circlea _ => "CIRCLEA"
  | .fcircle _ => "FCIRCLE"
  | .ellipse _ => "ELLIPSE"
  | .fellipse _ => "FELLIPSE"
  | .itofx => "ITOFX"
  | .fxtoi => "FXTOI"
  | .fxmul => "FXMUL"
  | .fxdiv => "FXDIV"

end Sys2Proof
end

