-- ==== Sys2Proof/Config.lean ====
section
/-! DEFINITION. What an implementation fixes (the open parameters of spec/00_scope.md R7, which have no value here) and the
constants the spec gives. An `opaque` of this file has no body: nothing can be proved of its value. -/

namespace Sys2Proof.Config

/-- OPEN parameter `BOUNDS_CHECK` (R7, decision D12, U6): whether the optional bounds check is built in. It is the reset
value of the field `State.bchk`; every statement of the model holds for both values of that field (DEDUCED, safe: log
entry 3). -/
opaque boundsCheck : Bool

/-- OPEN parameter `REG_BASE` (R7): the bus address of register offset 0. No rule depends on it. -/
opaque regBase : Nat

/-- OPEN parameter `FB_BASE` (R7, R61): the physical address of framebuffer offset 0. No rule depends on it. -/
opaque fbBase : Nat

/-- The byte the platform left at a framebuffer offset that no agent of the model has written yet (R39, U12: "any value").
A free value: one fixed byte for each offset, of which nothing is known (DEDUCED, safe: log entry 2). -/
opaque platformByte : Nat → Byte

/-- `WIDTH_RESET` (R7). -/
def widthReset : BitVec 16 := 320

/-- `HEIGHT_RESET` (R7). -/
def heightReset : BitVec 16 := 200

/-- `TABLE_ENTRIES` (R7). -/
def tableEntries : Nat := 1024

/-- How many framebuffer bytes can exist: `W * H` with both fields of `GEOM` at their greatest value (R30, R74). -/
def framebufferBytes : Nat := 65535 * 65535

end Sys2Proof.Config
end

