-- ==== Sys2Proof/Machine/State.lean ====
section
/-! DEFINITION. The machine's state as plain data: every register of spec/10_state.md, the TrigTable, the engine's working
state, the framebuffer, and what the agents outside the block do next. -/

namespace Sys2Proof.Machine

/-- The framebuffer's bytes that some agent has written, as (offset, byte) pairs with strictly rising offsets
(spec/20_memory.md R63). An offset that is not listed has no byte that the model knows: it holds what the platform left
there (`Config.platformByte`, R39, U12). -/
abbrev Memory := List Host.Cell

/-- The error codes that `raise` records (spec/60_exceptions.md R241). -/
inductive ErrCode where
  | illegal
  | oob
  | table
  | divz
  | operand
  deriving DecidableEq, Repr

/-- The engine's working state, which exists only while `STATUS.BUSY == 1` (spec/10_state.md R37): the operands and the
geometry latched by the `CMD` write (R36), and the position `p`, where `none` is "not started" and `some p` says that
`p` accesses have been performed. -/
structure Engine where
  l0 : Word
  l1 : Word
  l2 : Word
  l3 : Word
  w : BitVec 16
  h : BitVec 16
  pos : Option Nat
  deriving DecidableEq, Repr

/-- What the agents of spec/00_scope.md R14 do, one entry a move. -/
inductive Action where
  /-- `WR`: the host writes the register at a byte offset (spec/10_state.md R35). -/
  | write (off : Nat) (v : Word)
  /-- `RD`: the host reads the register at a byte offset (R34). -/
  | read (off : Nat)
  /-- `WAIT`: the host reads `STATUS` until `BUSY` is 0 (spec/30_encoding.md R101). -/
  | wait
  /-- The engine takes one engine step, if it has one (R14, R37). -/
  | engine
  /-- The reset event (spec/70_reset_and_hazards.md R270). -/
  | reset
  /-- Another framebuffer agent writes a byte (spec/20_memory.md R70). -/
  | otherWrite (off : Nat) (v : Byte)
  /-- Another framebuffer agent reads a byte (R67, R70). -/
  | otherRead (off : Nat)
  /-- An access to a register that is not an aligned 32-bit word's (R62, U10). -/
  | narrow (off : Nat)
  deriving DecidableEq, Repr

/-- The machine. `STATUS` is held by its fields (R24); `STATUS.BUSY` is 1 exactly while `engine` holds a working state
(R20, R37), so it has no field of its own. -/
structure State where
  /-- `CMD` (R27). -/
  cmd : Word
  /-- `STATUS.ERR` (R24). -/
  err : Bool
  /-- `STATUS.OVR` (R24). -/
  ovr : Bool
  /-- `STATUS.TV` (R24). -/
  tv : Bool
  /-- `STATUS.NSQ` (R24). -/
  nsq : Bool
  /-- `STATUS.ERRCODE` (R24). -/
  errcode : BitVec 4
  /-- `A0` (R21). -/
  a0 : Word
  /-- `A1` (R21). -/
  a1 : Word
  /-- `A2` (R21). -/
  a2 : Word
  /-- `A3` (R21). -/
  a3 : Word
  /-- `RESULT` (R28). -/
  result : Word
  /-- `ERRX` (R29). -/
  errx : Word
  /-- `ERRY` (R29). -/
  erry : Word
  /-- `GEOM.WIDTH`, bits 15:0 (R30). -/
  width : BitVec 16
  /-- `GEOM.HEIGHT`, bits 31:16 (R30). -/
  height : BitVec 16
  /-- `ID.BCHK`, the constant `BOUNDS_CHECK` (R31). -/
  bchk : Bool
  /-- The TrigTable `TAB` (R33). -/
  tab : List Word
  /-- The engine's working state (R37). -/
  engine : Option Engine
  /-- The framebuffer (spec/20_memory.md R63). -/
  mem : Memory
  /-- The MODEL's own field: what the agents outside the engine do next, in order (R14, R16; DESIGN CHOICE, unsafe: log
  entry 4). -/
  script : List Action
  /-- The MODEL's own field: the values the agents outside have read, newest first (R34; DESIGN CHOICE: log entry 4). -/
  seen : List Word
  deriving DecidableEq, Repr

/-- Why a run stops with a fault. -/
inductive Fault where
  /-- Raised by an access step at an out-of-bounds point when `BOUNDS_CHECK` is false: the model fault of
  spec/41_pixel_surface_signstep.md R142 (c), U1. Safe: the spec gives the run no meaning from there on. -/
  | outOfBounds (x y : Int)
  /-- Raised by another framebuffer agent's access to an offset that no geometry gives a byte (R60, R74). Safe: there is
  no such byte. -/
  | noSuchByte (off : Nat)
  deriving DecidableEq, Repr

/-- Why a step is refused. -/
inductive Refusal where
  /-- Raised by an arm of `exec` that has no meaning yet. Safe. -/
  | notModelled (mnemonic : String)
  /-- Raised by a register access that is not one aligned 32-bit word, which "a model refuses" (spec/20_memory.md R62,
  U10). Safe. -/
  | narrowAccess (off : Nat)
  deriving DecidableEq, Repr

/-- The machine right after reset (spec/10_state.md R39, spec/70_reset_and_hazards.md R270): every register 0 but `GEOM`
and the constant `ID`, the engine idle. The table's entries are unspecified there and 0 here (DESIGN CHOICE, unsafe: log entry 1); nothing has written the
framebuffer; no outside agent moves. -/
def State.reset : State where
  cmd := 0
  err := false
  ovr := false
  tv := false
  nsq := false
  errcode := 0
  a0 := 0
  a1 := 0
  a2 := 0
  a3 := 0
  result := 0
  errx := 0
  erry := 0
  width := Config.widthReset
  height := Config.heightReset
  bchk := Config.boundsCheck
  tab := List.replicate Config.tableEntries 0
  engine := none
  mem := []
  script := []
  seen := []

end Sys2Proof.Machine
end

