-- ==== Sys2Proof/Machine/Flags.lean ====
section
/-! DEFINITION. The flags: the `STATUS` word (spec/10_state.md R24), its write-1-to-clear (R26), the error codes
(spec/60_exceptions.md R241). No command computes an arithmetic flag (R25). -/

namespace Sys2Proof.Machine

/-- `STATUS.BUSY` (R24, R37): 1 exactly while the engine holds a working state. -/
def State.busy (s : State) : Bool := s.engine.isSome

/-- The word a read of `STATUS` returns (R24): the fields at their bits, the reserved bits 0. -/
def State.statusWord (s : State) : Word :=
  (0 : BitVec 20) ++ s.errcode ++ (0 : BitVec 3) ++ BitVec.ofBool s.nsq ++ BitVec.ofBool s.tv ++ BitVec.ofBool s.ovr
    ++ BitVec.ofBool s.err ++ BitVec.ofBool s.busy

/-- A host write of `v` to `STATUS` (R26): bit 1 clears ERR and ERRCODE, bit 2 OVR, bit 4 NSQ; no other bit counts. -/
def State.writeStatus (s : State) (v : Word) : State :=
  { s with
    err := s.err && !v.getLsbD 1
    errcode := if v.getLsbD 1 then 0 else s.errcode
    ovr := s.ovr && !v.getLsbD 2
    nsq := s.nsq && !v.getLsbD 4 }

/-- The code that `STATUS.ERRCODE` records (R241). -/
def ErrCode.code : ErrCode → BitVec 4
  | .illegal => 1
  | .oob => 2
  | .table => 3
  | .divz => 4
  | .operand => 5

end Sys2Proof.Machine
end

