-- ==== Sys2Proof/Machine/Operands.lean ====
section
/-! DEFINITION. Operand forms and the integer arithmetic of the rules: the two views of a latched operand
(spec/10_state.md R22, spec/30_encoding.md R93) and spec/00_scope.md R9. -/

namespace Sys2Proof.Machine

/-- The coordinate view (R22): `s32(sext_32(v[15:0]))`, bits 31:16 ignored. -/
def coord (v : Word) : Int := s32 ((v.extractLsb' 0 16).signExtend 32)

/-- The full view (R93): all 32 bits, signed. -/
def full (v : Word) : Int := s32 v

/-- `sgn(v)`, the source's `unitStep` (R9, spec/41_pixel_surface_signstep.md R146). -/
def sgn (v : Int) : Int := if v < 0 then -1 else if v = 0 then 0 else 1

/-- `a >> k` on an integer: the floor of `a / 2^k` (R9). -/
def asr (v : Int) (k : Nat) : Int := v >>> k

/-- `a << k` on an integer: `a * 2^k` (R9). -/
def shl (v : Int) (k : Nat) : Int := v * 2 ^ k

/-- `tdiv(a, b)`: division rounding toward zero (R9). -/
def tdiv (a b : Int) : Int := Int.tdiv a b

/-- `floor(a / b)` (R9). -/
def floorDiv (a b : Int) : Int := Int.fdiv a b

/-- The operands in the coordinate view (R22), by the register that carried them (R94). -/
def Engine.c0 (e : Engine) : Int := coord e.l0
/-- `coord(1)` (R22). -/
def Engine.c1 (e : Engine) : Int := coord e.l1
/-- `coord(2)` (R22). -/
def Engine.c2 (e : Engine) : Int := coord e.l2
/-- `coord(3)` (R22). -/
def Engine.c3 (e : Engine) : Int := coord e.l3

end Sys2Proof.Machine
end

