-- ==== Sys2Proof/Machine/Ops.lean ====
section
/-! DEFINITION. The named operations: the framebuffer, the latching of a command, raising an error and leaving it, the
bounds policy, and the engine's two kinds of step (spec/10_state.md R36 to R38). -/

namespace Sys2Proof.Machine

/-! ### The framebuffer (spec/20_memory.md R63, R64) -/

/-- The byte listed at an offset, if some agent has written it. -/
def Memory.lookup : Memory → Nat → Option Byte
  | [], _ => none
  | (a, b) :: m, o => if a = o then some b else Memory.lookup m o

/-- `MemWrite(o, 1, v)` (R64): the byte at `o` becomes `v`, no other changes; the list stays in its one form. -/
def Memory.write : Memory → Nat → Byte → Memory
  | [], o, v => [(o, v)]
  | (a, b) :: m, o, v =>
    if o < a then (o, v) :: (a, b) :: m
    else if a = o then (o, v) :: m
    else (a, b) :: Memory.write m o v

/-- The canonical form: offsets strictly rising, each one that some geometry reaches (R74). An unlisted offset reads as no
known byte, so no entry can equal what it would read as unlisted. -/
abbrev Memory.wf (m : Memory) : Prop :=
  m.Pairwise (fun a b => a.1 < b.1) ∧ ∀ a ∈ m, a.1 < Config.framebufferBytes

/-- `MemRead(o, 1)` (R64): the byte last written there by any agent, else what the platform left (U12). -/
def State.readByte (s : State) (o : Nat) : Byte := (s.mem.lookup o).getD (Config.platformByte o)

/-- The same state with one framebuffer byte written. -/
def State.writeByte (s : State) (o : Nat) (v : Byte) : State := { s with mem := s.mem.write o v }

/-- The physical address of a framebuffer offset (R61). -/
def framebufferAddress (o : Nat) : Nat := Config.fbBase + o

/-- The bus address of a register offset (R71). -/
def registerAddress (off : Nat) : Nat := Config.regBase + off

/-! ### Starting, ending, failing -/

/-- The engine's working state replaced (R37). -/
def State.setEngine (s : State) (g : Option Engine) : State := { s with engine := g }

/-- `RESULT <- v` (R28). -/
def State.setResult (s : State) (v : Word) : State := { s with result := v }

/-- The whole table replaced and TV set, in one action (R33). -/
def State.setTable (s : State) (t : List Word) : State := { s with tab := t, tv := true }

/-- `NSQ <- 1` where the command says so (R25). -/
def State.flagNotSquare (s : State) (q : Bool) : State := { s with nsq := s.nsq || q }

/-- The working state that an accepted `CMD` write makes (R36): operands and geometry latched, not started. -/
def State.latch (s : State) : Engine :=
  { l0 := s.a0, l1 := s.a1, l2 := s.a2, l3 := s.a3, w := s.width, h := s.height, pos := none }

/-- An accepted `CMD` write (R36). -/
def State.start (s : State) (v : Word) : State := { s with cmd := v, engine := some s.latch }

/-- `done` (R38): BUSY becomes 0 and the working state is discarded. -/
def State.done (s : State) : State := s.setEngine none

/-- `raise E_X(ex, ey)`, the block's one trap entry (spec/60_exceptions.md R245). -/
def State.raise (s : State) (code : ErrCode) (ex ey : Int) : State :=
  { s with errcode := code.code, errx := trunc32 ex, erry := trunc32 ey, err := true, engine := none }

/-- Leaving an error (R251): the host's acknowledge `WR STATUS, 0x2` (`CLRERR`). Nothing is restored or resumed. -/
def State.acknowledge (s : State) : State := s.writeStatus 0x2

/-! ### Points -/

/-- `addr(x, y) = y * W + x` (spec/41_pixel_surface_signstep.md R140). -/
def Engine.addr (e : Engine) (x y : Int) : Int := y * e.w.toNat + x

/-- R142 (a): the point is in bounds of the latched geometry. -/
def Engine.inBounds (e : Engine) (x y : Int) : Bool := 0 ≤ x && x < e.w.toNat && 0 ≤ y && y < e.h.toNat

/-- The framebuffer offset of an in-bounds point (R63, R74). -/
def Engine.offset (e : Engine) (x y : Int) : Nat := (e.addr x y).toNat

/-- One entry of an access sequence (R143, R144): `Plot(x, y, c)` or `Fetch(x, y)`. -/
inductive Access where
  | plot (x y : Int) (c : Byte)
  | fetch (x y : Int)
  deriving DecidableEq, Repr

/-- The column of an access's point. -/
def Access.x : Access → Int
  | .plot x _ _ => x
  | .fetch x _ => x

/-- The row of an access's point. -/
def Access.y : Access → Int
  | .plot _ y _ => y
  | .fetch _ y => y

/-- The access itself, at an in-bounds point: a byte written (R143), or a byte read into RESULT, the register effect of
GETPIX, the only command that fetches (R144, R149). -/
def State.access (s : State) (e : Engine) : Access → State
  | .plot x y c => s.writeByte (e.offset x y) c
  | .fetch x y => s.setResult ((s.readByte (e.offset x y)).setWidth 32)

/-! ### Commands -/

/-- What the start step finds a command to be, from the latched operands and the table (R37). -/
inductive Plan where
  /-- A pre-check fails; both information words are 0 (R241). -/
  | error (code : ErrCode)
  /-- No access; RESULT takes a value. -/
  | value (v : Word)
  /-- No access; the table is built and TV set. -/
  | table (t : List Word)
  /-- The access sequence; `notSquare` is the flag effect before drawing, NSQ set to 1 (only CIRCLEA). -/
  | draw (notSquare : Bool) (accesses : List Access)
  deriving DecidableEq, Repr

/-- The access sequence `S` of a command (R13, R37). -/
def Plan.accesses : Plan → List Access
  | .error _ => []
  | .value _ => []
  | .table _ => []
  | .draw _ S => S

/-- The start step after decoding (R37): the first failing pre-check raises; a command without accesses has its register
effects and is done; any other has its flag effect and stands before access 0. -/
def State.startStep (s : State) (e : Engine) : Plan → State
  | .error code => s.raise code 0 0
  | .value v => (s.setResult v).done
  | .table t => (s.setTable t).done
  | .draw notSquare S =>
    if S.isEmpty then (s.flagNotSquare notSquare).done
    else (s.flagNotSquare notSquare).setEngine (some { e with pos := some 0 })

/-- `p <- p + 1` (R37). -/
def State.advance (s : State) (e : Engine) : State := s.setEngine (some { e with pos := e.pos.map (· + 1) })

/-- An access step (R37) under the bounds policy (R142): in bounds, the access is performed, and the last one ends the
command; out of bounds, `E_OOB` where the check is built in, the model fault where it is not. -/
def State.accessStep (s : State) (e : Engine) (a : Access) (last : Bool) : Host.Outcome State Fault Refusal :=
  if e.inBounds a.x a.y then
    .next (if last then (s.access e a).done else (s.access e a).advance e)
  else if s.bchk then .next (s.raise .oob a.x a.y)
  else .fault (.outOfBounds a.x a.y)

/-- The access steps that are left, in order, until the command is done or stops (R11, R68). -/
def State.runAccesses (s : State) : List Access → Host.Outcome State Fault Refusal
  | [] => .next s
  | a :: rest =>
    match s.engine with
    | none => .next s
    | some e =>
      match s.accessStep e a rest.isEmpty with
      | .next t => t.runAccesses rest
      | .fault r => .fault r
      | .refused r => .refused r

/-- The whole command, from wherever the engine stands to `done` or `raise` (R14, R37). An idle engine has no step. -/
def State.perform (s : State) (plan : State → Engine → Plan) : Host.Outcome State Fault Refusal :=
  match s.engine with
  | none => .next s
  | some e =>
    match e.pos with
    | none => (s.startStep e (plan s e)).runAccesses (plan s e).accesses
    | some p => s.runAccesses ((plan s e).accesses.drop p)

/-- ONE engine step of a command (R37): the start step, or access number `p`. Where no step is enabled nothing happens. -/
def State.performOne (s : State) (plan : State → Engine → Plan) : Host.Outcome State Fault Refusal :=
  match s.engine with
  | none => .next s
  | some e =>
    match e.pos with
    | none => .next (s.startStep e (plan s e))
    | some p =>
      match (plan s e).accesses.drop p with
      | [] => .next s
      | a :: rest => s.accessStep e a rest.isEmpty

end Sys2Proof.Machine
end

