-- ==== Sys2Proof/Machine/TrigTable.lean ====
section
/-! DEFINITION. The constant TRIG_TABLE (spec/45_trig_table_values.md R230) and reading a TrigTable entry. -/

namespace Sys2Proof.Machine

/-- The integer square root bit by bit: the greatest `s + j` with `j < 2^k` whose square is at most `m`. -/
def isqrtFrom (m : Nat) : Nat → Nat → Nat
  | 0, s => s
  | k + 1, s => if (s + 2 ^ k) * (s + 2 ^ k) ≤ m then isqrtFrom m k (s + 2 ^ k) else isqrtFrom m k s

/-- `isqrt(m)` (spec/00_scope.md R9): the largest `s` with `s * s <= m`. -/
def isqrt (m : Nat) : Nat := isqrtFrom m (m.log2 / 2 + 1) 0

/-- `TRIG_TABLE[i] = isqrt(4096 * (1048576 - i * i))` (R230). -/
def trigEntry (i : Nat) : Nat := isqrt (4096 * (1048576 - i * i))

/-- The 1024 values that BUILDTAB writes (R230). -/
def trigTable : List Word := (List.range Config.tableEntries).map fun i => BitVec.ofNat 32 (trigEntry i)

/-- `TAB[i]` (spec/10_state.md R33); every caller has `i <= 1023`. -/
def tabEntry (tab : List Word) (i : Nat) : Word := tab.getD i 0

end Sys2Proof.Machine
end

