-- ==== Sys2Proof/Machine/Circles.lean ====
section
/-! DEFINITION. TrigTable and the 8-way circle rasterizer (spec/44_circle.md): BUILDTAB, TABRD, CIRCLE, CIRCLEA, and the
reserved FCIRCLE, ELLIPSE, FELLIPSE. -/

namespace Sys2Proof.Machine

/-- `idx(n) = min(n >> 6, 1023)` (R203). -/
def trigIndex (n : Int) : Nat := (min (asr n 6) 1023).toNat

/-- `inc(r) = floor(65536 / r)`, for `r >= 1` (R204). -/
def circleInc (r : Int) : Int := floorDiv 65536 r

/-- `dY = (TAB[idx(n)] * r) >> 16` (R205). -/
def circleDY (tab : List Word) (r n : Int) : Int := asr (s32 (tabEntry tab (trigIndex n)) * r) 16

/-- The eight points of one iteration, octants 0 to 7 in order (R205, R206). -/
def octants (cx cy dX dY : Int) (c : Byte) : List Access :=
  [.plot (cx + dX) (cy + dY) c, .plot (cx - dX) (cy + dY) c, .plot (cx + dX) (cy - dY) c, .plot (cx - dX) (cy - dY) c,
   .plot (cx + dY) (cy + dX) c, .plot (cx - dY) (cy + dX) c, .plot (cx + dY) (cy - dX) c, .plot (cx - dY) (cy - dX) c]

/-- The loop of `Circle` (R205), while `dX <= dY`, in at most `fuel` turns. -/
def circleLoop (tab : List Word) (cx cy r : Int) (c : Byte) : Nat → Int → Int → Int → List Access
  | 0, _, _, _ => []
  | fuel + 1, dX, dY, n =>
    if dX ≤ dY then
      octants cx cy dX dY c
        ++ circleLoop tab cx cy r c fuel (dX + 1) (circleDY tab r (n + circleInc r)) (n + circleInc r)
    else []

/-- `Circle(cx, cy, r, c)` (R205); its loop takes at most `r + 1` turns, none for `r <= 0` (R208). -/
def circle (tab : List Word) (cx cy r : Int) (c : Byte) : List Access :=
  circleLoop tab cx cy r c (r + 1).toNat 0 (r - 1) 0

/-- BUILDTAB (R200): the whole table in one engine step. -/
def planBuildtab (_ : State) (_ : Engine) : Plan := .table trigTable

/-- TABRD (R202): the table check, then the index check, then the entry. -/
def planTabrd (s : State) (e : Engine) : Plan :=
  if !s.tv then .error .table
  else if e.c0 < 0 ∨ e.c0 > 1023 then .error .operand
  else .value (tabEntry s.tab e.c0.toNat)

/-- CIRCLE (R210). -/
def planCircle (c : Byte) (s : State) (e : Engine) : Plan :=
  if !s.tv then .error .table else .draw false (circle s.tab e.c0 e.c1 e.c2 c)

/-- CIRCLEA (R211): the radius is half the x delta, the centre the start corner plus half of each delta; NSQ flags
unequal deltas. -/
def planCirclea (c : Byte) (s : State) (e : Engine) : Plan :=
  if !s.tv then .error .table
  else
    .draw (decide (e.c2 - e.c0 ≠ e.c3 - e.c1))
      (circle s.tab (e.c0 + tdiv (e.c2 - e.c0) 2) (e.c1 + tdiv (e.c3 - e.c1) 2) (tdiv (e.c2 - e.c0) 2) c)

/-- FCIRCLE (R213): reserved, illegal whatever its other bits. -/
def planFcircle (_ : BitVec 24) (_ : State) (_ : Engine) : Plan := .error .illegal

/-- ELLIPSE (R213): reserved, illegal whatever its other bits. -/
def planEllipse (_ : BitVec 24) (_ : State) (_ : Engine) : Plan := .error .illegal

/-- FELLIPSE (R213): reserved, illegal whatever its other bits. -/
def planFellipse (_ : BitVec 24) (_ : State) (_ : Engine) : Plan := .error .illegal

/-- BUILDTAB (R200). -/
def execBuildtab (s : State) : Host.Outcome State Fault Refusal := s.perform planBuildtab

/-- TABRD (R202). -/
def execTabrd (s : State) : Host.Outcome State Fault Refusal := s.perform planTabrd

/-- CIRCLE (R210). -/
def execCircle (c : Byte) (s : State) : Host.Outcome State Fault Refusal := s.perform (planCircle c)

/-- CIRCLEA (R211). -/
def execCirclea (c : Byte) (s : State) : Host.Outcome State Fault Refusal := s.perform (planCirclea c)

/-- FCIRCLE (R213): raises `E_ILLEGAL`. -/
def execFcircle (rest : BitVec 24) (s : State) : Host.Outcome State Fault Refusal := s.perform (planFcircle rest)

/-- ELLIPSE (R213): raises `E_ILLEGAL`. -/
def execEllipse (rest : BitVec 24) (s : State) : Host.Outcome State Fault Refusal := s.perform (planEllipse rest)

/-- FELLIPSE (R213): raises `E_ILLEGAL`. -/
def execFellipse (rest : BitVec 24) (s : State) : Host.Outcome State Fault Refusal := s.perform (planFellipse rest)

end Sys2Proof.Machine
end

