-- ==== Sys2Proof/Machine/FixedPoint.lean ====
section
/-! DEFINITION. The 16.16 fixed-point unit (spec/40_fixed_point.md): ITOFX, FXTOI, FXMUL, FXDIV. Each result is computed
as an exact integer and its low 32 bits are kept (R121). -/

namespace Sys2Proof.Machine

/-- ITOFX (R123). -/
def planItofx (_ : State) (e : Engine) : Plan := .value (trunc32 (shl (full e.l0) 16))

/-- FXTOI (R124). -/
def planFxtoi (_ : State) (e : Engine) : Plan := .value (trunc32 (asr (full e.l0) 16))

/-- FXMUL (R125). -/
def planFxmul (_ : State) (e : Engine) : Plan := .value (trunc32 (asr (full e.l0 * full e.l1) 16))

/-- FXDIV (R126): a zero divisor raises `E_DIVZ` (spec/60_exceptions.md R247). -/
def planFxdiv (_ : State) (e : Engine) : Plan :=
  if full e.l1 = 0 then .error .divz else .value (trunc32 (tdiv (shl (full e.l0) 16) (full e.l1)))

/-- ITOFX (R123). -/
def execItofx (s : State) : Host.Outcome State Fault Refusal := s.perform planItofx

/-- FXTOI (R124). -/
def execFxtoi (s : State) : Host.Outcome State Fault Refusal := s.perform planFxtoi

/-- FXMUL (R125). -/
def execFxmul (s : State) : Host.Outcome State Fault Refusal := s.perform planFxmul

/-- FXDIV (R126). -/
def execFxdiv (s : State) : Host.Outcome State Fault Refusal := s.perform planFxdiv

end Sys2Proof.Machine
end

