-- ==== Sys2Proof/Machine/Lines.lean ====
section
/-! DEFINITION. The line rasterizer (spec/42_line.md): the procedures VLine, HLine, BLine as access sequences, and VLINE,
HLINE, LINE, VLINEA, HLINEA, LINEA. -/

namespace Sys2Proof.Machine

/-- The loop of `VLine` (R160): `n` more turns from the counter value `i`. -/
def vlineLoop (x y s : Int) (c : Byte) : Nat → Int → List Access
  | 0, _ => []
  | n + 1, i => .plot x (y + (i + s)) c :: vlineLoop x y s c n (i + s)

/-- `VLine(x, y, d, c)` (R160). -/
def vline (x y d : Int) (c : Byte) : List Access := .plot x y c :: vlineLoop x y (sgn d) c d.natAbs 0

/-- The loop of `HLine` (R161). -/
def hlineLoop (x y s : Int) (c : Byte) : Nat → Int → List Access
  | 0, _ => []
  | n + 1, i => .plot (x + (i + s)) y c :: hlineLoop x y s c n (i + s)

/-- `HLine(x, y, d, c)` (R161). -/
def hline (x y d : Int) (c : Byte) : List Access := .plot x y c :: hlineLoop x y (sgn d) c d.natAbs 0

/-- The run-major loop of `BLine` (R162): `n` more turns from `(x, y)` with accumulator `err`. -/
def blineRun (absRun absRise signRun signRise : Int) (c : Byte) : Nat → Int → Int → Int → List Access
  | 0, _, _, _ => []
  | n + 1, x, y, err =>
    if err + absRise ≥ absRun then
      .plot (x + signRun) (y + signRise) c
        :: blineRun absRun absRise signRun signRise c n (x + signRun) (y + signRise) (err + absRise - absRun)
    else
      .plot (x + signRun) y c :: blineRun absRun absRise signRun signRise c n (x + signRun) y (err + absRise)

/-- The rise-major loop of `BLine` (R162). -/
def blineRise (absRun absRise signRun signRise : Int) (c : Byte) : Nat → Int → Int → Int → List Access
  | 0, _, _, _ => []
  | n + 1, x, y, err =>
    if err + absRun ≥ absRise then
      .plot (x + signRun) (y + signRise) c
        :: blineRise absRun absRise signRun signRise c n (x + signRun) (y + signRise) (err + absRun - absRise)
    else
      .plot x (y + signRise) c :: blineRise absRun absRise signRun signRise c n x (y + signRise) (err + absRun)

/-- `BLine(x, y, dx, dy, c)` (R162): a tie of the magnitudes goes to the run; the accumulator starts at half the minor
magnitude, rounded down. -/
def bline (x y dx dy : Int) (c : Byte) : List Access :=
  if dx.natAbs ≥ dy.natAbs then
    .plot x y c :: blineRun dx.natAbs dy.natAbs (sgn dx) (sgn dy) c dx.natAbs x y (asr dy.natAbs 1)
  else
    .plot x y c :: blineRise dx.natAbs dy.natAbs (sgn dx) (sgn dy) c dy.natAbs x y (asr dx.natAbs 1)

/-- VLINE (R163). -/
def planVline (c : Byte) (_ : State) (e : Engine) : Plan := .draw false (vline e.c0 e.c1 e.c2 c)

/-- HLINE (R164). -/
def planHline (c : Byte) (_ : State) (e : Engine) : Plan := .draw false (hline e.c0 e.c1 e.c2 c)

/-- LINE (R167). -/
def planLine (c : Byte) (_ : State) (e : Engine) : Plan := .draw false (bline e.c0 e.c1 e.c2 e.c3 c)

/-- VLINEA (R165): `x, y0, y1`. -/
def planVlinea (c : Byte) (_ : State) (e : Engine) : Plan := .draw false (vline e.c0 e.c1 (e.c2 - e.c1) c)

/-- HLINEA (R166): `x0, y, x1`, horizontal. -/
def planHlinea (c : Byte) (_ : State) (e : Engine) : Plan := .draw false (hline e.c0 e.c1 (e.c2 - e.c0) c)

/-- LINEA (R168): `x0, y0, x1, y1`. -/
def planLinea (c : Byte) (_ : State) (e : Engine) : Plan :=
  .draw false (bline e.c0 e.c1 (e.c2 - e.c0) (e.c3 - e.c1) c)

/-- VLINE (R163). -/
def execVline (c : Byte) (s : State) : Host.Outcome State Fault Refusal := s.perform (planVline c)

/-- HLINE (R164). -/
def execHline (c : Byte) (s : State) : Host.Outcome State Fault Refusal := s.perform (planHline c)

/-- LINE (R167). -/
def execLine (c : Byte) (s : State) : Host.Outcome State Fault Refusal := s.perform (planLine c)

/-- VLINEA (R165). -/
def execVlinea (c : Byte) (s : State) : Host.Outcome State Fault Refusal := s.perform (planVlinea c)

/-- HLINEA (R166). -/
def execHlinea (c : Byte) (s : State) : Host.Outcome State Fault Refusal := s.perform (planHlinea c)

/-- LINEA (R168). -/
def execLinea (c : Byte) (s : State) : Host.Outcome State Fault Refusal := s.perform (planLinea c)

end Sys2Proof.Machine
end

