-- ==== Sys2Proof/Machine/PixelSurface.lean ====
section
/-! DEFINITION. The pixel address calculator, pixel access and the sign step (spec/41_pixel_surface_signstep.md): ADDR,
SETPIX, GETPIX, SGN. A command's plan is what its start step finds; its meaning performs the plan. -/

namespace Sys2Proof.Machine

/-- ADDR (R147): no bounds policy, never an error. -/
def planAddr (_ : State) (e : Engine) : Plan := .value (trunc32 (e.addr e.c0 e.c1))

/-- SETPIX (R148). -/
def planSetpix (c : Byte) (_ : State) (e : Engine) : Plan := .draw false [.plot e.c0 e.c1 c]

/-- GETPIX (R149). -/
def planGetpix (_ : State) (e : Engine) : Plan := .draw false [.fetch e.c0 e.c1]

/-- SGN (R150), full view. -/
def planSgn (_ : State) (e : Engine) : Plan := .value (trunc32 (sgn (full e.l0)))

/-- ADDR (R147). -/
def execAddr (s : State) : Host.Outcome State Fault Refusal := s.perform planAddr

/-- SETPIX (R148). -/
def execSetpix (c : Byte) (s : State) : Host.Outcome State Fault Refusal := s.perform (planSetpix c)

/-- GETPIX (R149). -/
def execGetpix (s : State) : Host.Outcome State Fault Refusal := s.perform planGetpix

/-- SGN (R150). -/
def execSgn (s : State) : Host.Outcome State Fault Refusal := s.perform planSgn

end Sys2Proof.Machine
end

