-- ==== Sys2Proof/Machine/Rects.lean ====
section
/-! DEFINITION. The rectangle sequencer (spec/43_rect.md): RectOutline, FillRect, OutlinedRect as sequences of the line
procedures, and RECT, FRECT, ORECT, RECTA, FRECTA, ORECTA. -/

namespace Sys2Proof.Machine

/-- `RectOutline(x, y, run, rise, c)` (R180). -/
def rectOutline (x y run rise : Int) (c : Byte) : List Access :=
  hline x y run c ++ hline x (y + rise) run c ++ vline x y rise c ++ vline (x + run) y rise c

/-- The loop of `FillRect` (R181): `n` more columns from the counter value `i`. -/
def fillLoop (x y rise s : Int) (c : Byte) : Nat → Int → List Access
  | 0, _ => []
  | n + 1, i => vline (x + (i + s)) y rise c ++ fillLoop x y rise s c n (i + s)

/-- `FillRect(x, y, run, rise, c)` (R181): never fewer than one column. -/
def fillRect (x y run rise : Int) (c : Byte) : List Access :=
  vline x y rise c ++ fillLoop x y rise (sgn run) c run.natAbs 0

/-- `OutlinedRect(x, y, run, rise, oc, fc)` (R182): the literal composition, no special case for small extents. -/
def outlinedRect (x y run rise : Int) (oc fc : Byte) : List Access :=
  rectOutline x y run rise oc
    ++ fillRect (x + sgn run) (y + sgn rise) (run - 2 * sgn run) (rise - 2 * sgn rise) fc

/-- RECT (R183). -/
def planRect (c : Byte) (_ : State) (e : Engine) : Plan := .draw false (rectOutline e.c0 e.c1 e.c2 e.c3 c)

/-- FRECT (R184). -/
def planFrect (c : Byte) (_ : State) (e : Engine) : Plan := .draw false (fillRect e.c0 e.c1 e.c2 e.c3 c)

/-- ORECT (R185). -/
def planOrect (c c2 : Byte) (_ : State) (e : Engine) : Plan := .draw false (outlinedRect e.c0 e.c1 e.c2 e.c3 c c2)

/-- RECTA (R186). -/
def planRecta (c : Byte) (_ : State) (e : Engine) : Plan :=
  .draw false (rectOutline e.c0 e.c1 (e.c2 - e.c0) (e.c3 - e.c1) c)

/-- FRECTA (R187). -/
def planFrecta (c : Byte) (_ : State) (e : Engine) : Plan :=
  .draw false (fillRect e.c0 e.c1 (e.c2 - e.c0) (e.c3 - e.c1) c)

/-- ORECTA (R188). -/
def planOrecta (c c2 : Byte) (_ : State) (e : Engine) : Plan :=
  .draw false (outlinedRect e.c0 e.c1 (e.c2 - e.c0) (e.c3 - e.c1) c c2)

/-- RECT (R183). -/
def execRect (c : Byte) (s : State) : Host.Outcome State Fault Refusal := s.perform (planRect c)

/-- FRECT (R184). -/
def execFrect (c : Byte) (s : State) : Host.Outcome State Fault Refusal := s.perform (planFrect c)

/-- ORECT (R185). -/
def execOrect (c c2 : Byte) (s : State) : Host.Outcome State Fault Refusal := s.perform (planOrect c c2)

/-- RECTA (R186). -/
def execRecta (c : Byte) (s : State) : Host.Outcome State Fault Refusal := s.perform (planRecta c)

/-- FRECTA (R187). -/
def execFrecta (c : Byte) (s : State) : Host.Outcome State Fault Refusal := s.perform (planFrecta c)

/-- ORECTA (R188). -/
def execOrecta (c c2 : Byte) (s : State) : Host.Outcome State Fault Refusal := s.perform (planOrecta c c2)

end Sys2Proof.Machine
end

