-- ==== Sys2Proof/Machine/Dispatch.lean ====
section
/-! DEFINITION. One arm for each command: its meaning, which takes the whole command from where the engine stands. -/

namespace Sys2Proof.Machine

def exec (i : Instr) (s : State) : Host.Outcome State Fault Refusal :=
  match i with
  | .addr => Sys2Proof.Machine.execAddr s
  | .setpix c => Sys2Proof.Machine.execSetpix c s
  | .getpix => Sys2Proof.Machine.execGetpix s
  | .sgn => Sys2Proof.Machine.execSgn s
  | .vline c => Sys2Proof.Machine.execVline c s
  | .hline c => Sys2Proof.Machine.execHline c s
  | .line c => Sys2Proof.Machine.execLine c s
  | .vlinea c => Sys2Proof.Machine.execVlinea c s
  | .hlinea c => Sys2Proof.Machine.execHlinea c s
  | .linea c => Sys2Proof.Machine.execLinea c s
  | .rect c => Sys2Proof.Machine.execRect c s
  | .frect c => Sys2Proof.Machine.execFrect c s
  | .orect c c2 => Sys2Proof.Machine.execOrect c c2 s
  | .recta c => Sys2Proof.Machine.execRecta c s
  | .frecta c => Sys2Proof.Machine.execFrecta c s
  | .orecta c c2 => Sys2Proof.Machine.execOrecta c c2 s
  | .buildtab => Sys2Proof.Machine.execBuildtab s
  | .circle c => Sys2Proof.Machine.execCircle c s
  | .tabrd => Sys2Proof.Machine.execTabrd s
  | .circlea c => Sys2Proof.Machine.execCirclea c s
  | .fcircle rest => Sys2Proof.Machine.execFcircle rest s
  | .ellipse rest => Sys2Proof.Machine.execEllipse rest s
  | .fellipse rest => Sys2Proof.Machine.execFellipse rest s
  | .itofx => Sys2Proof.Machine.execItofx s
  | .fxtoi => Sys2Proof.Machine.execFxtoi s
  | .fxmul => Sys2Proof.Machine.execFxmul s
  | .fxdiv => Sys2Proof.Machine.execFxdiv s

end Sys2Proof.Machine
end

