-- ==== Sys2Proof/Machine/HostPort.lean ====
section
/-! DEFINITION. The register map and the host's access rules (spec/10_state.md R32 to R36). -/

namespace Sys2Proof.Machine

/-- The eleven host-visible registers (R32). -/
inductive Reg where
  | cmd
  | status
  | a0
  | a1
  | a2
  | a3
  | result
  | errx
  | erry
  | geom
  | id
  deriving DecidableEq, Repr

/-- The register at a byte offset from `REG_BASE` (R32); every other offset addresses no register. -/
def Reg.ofOffset (off : Nat) : Option Reg :=
  match off with
  | 0x00 => some .cmd
  | 0x04 => some .status
  | 0x08 => some .a0
  | 0x0C => some .a1
  | 0x10 => some .a2
  | 0x14 => some .a3
  | 0x18 => some .result
  | 0x1C => some .errx
  | 0x20 => some .erry
  | 0x24 => some .geom
  | 0x28 => some .id
  | _ => none

/-- The byte offset of a register (R32). -/
def Reg.offset : Reg → Nat
  | .cmd => 0x00
  | .status => 0x04
  | .a0 => 0x08
  | .a1 => 0x0C
  | .a2 => 0x10
  | .a3 => 0x14
  | .result => 0x18
  | .errx => 0x1C
  | .erry => 0x20
  | .geom => 0x24
  | .id => 0x28

/-- The constant register `ID` (R31): bit 0 is `BCHK`, the others read as 0. -/
def State.idWord (s : State) : Word := (BitVec.ofBool s.bchk).setWidth 32

/-- What a read of a register returns (R34). -/
def State.readReg (s : State) : Reg → Word
  | .cmd => s.cmd
  | .status => s.statusWord
  | .a0 => s.a0
  | .a1 => s.a1
  | .a2 => s.a2
  | .a3 => s.a3
  | .result => s.result
  | .errx => s.errx
  | .erry => s.erry
  | .geom => s.height ++ s.width
  | .id => s.idWord

/-- A host read at an offset (R34); an offset with no register reads as 0 (R32). -/
def State.hostRead (s : State) (off : Nat) : Word :=
  match Reg.ofOffset off with
  | none => 0
  | some r => s.readReg r

/-- A dropped write (R13, R257): nothing changes but `OVR`. -/
def State.dropped (s : State) : State := { s with ovr := true }

/-- A host write of `v` to `CMD` (R36). -/
def State.writeCmd (s : State) (v : Word) : State := if s.busy || s.err then s.dropped else s.start v

/-- A host write of `v` to a register (R35). -/
def State.writeReg (s : State) (r : Reg) (v : Word) : State :=
  match r with
  | .status => s.writeStatus v
  | .result => s
  | .errx => s
  | .erry => s
  | .id => s
  | .cmd => s.writeCmd v
  | .a0 => if s.busy then s.dropped else { s with a0 := v }
  | .a1 => if s.busy then s.dropped else { s with a1 := v }
  | .a2 => if s.busy then s.dropped else { s with a2 := v }
  | .a3 => if s.busy then s.dropped else { s with a3 := v }
  | .geom =>
    if s.busy then s.dropped else { s with width := v.extractLsb' 0 16, height := v.extractLsb' 16 16 }

/-- A host write at an offset (R35); at an offset with no register it is ignored and is no dropped write (R32). -/
def State.hostWrite (s : State) (off : Nat) (v : Word) : State :=
  match Reg.ofOffset off with
  | none => s
  | some r => s.writeReg r v

/-- The reset event (spec/70_reset_and_hazards.md R270, R271): every register, the table and the engine as at reset, the
constant `ID` kept, the framebuffer untouched. What the outside agents do next, and have seen, is theirs. -/
def State.resetEvent (s : State) : State :=
  { State.reset with bchk := s.bchk, mem := s.mem, script := s.script, seen := s.seen }

/-- An outside agent takes note of a value it read. -/
def State.see (s : State) (v : Word) : State := { s with seen := v :: s.seen }

end Sys2Proof.Machine
end

