-- ==== Sys2Proof/Machine/Engine.lean ====
section
/-! DEFINITION. The engine's decoding of `CMD`, its single steps, and the moves of the outside agents (spec/00_scope.md
R14, spec/10_state.md R37). -/

namespace Sys2Proof.Machine

/-- What the start step of a command finds (R37), command by command. -/
def planOf (i : Instr) (s : State) (e : Engine) : Plan :=
  match i with
  | .addr => planAddr s e
  | .setpix c => planSetpix c s e
  | .getpix => planGetpix s e
  | .sgn => planSgn s e
  | .vline c => planVline c s e
  | .hline c => planHline c s e
  | .line c => planLine c s e
  | .vlinea c => planVlinea c s e
  | .hlinea c => planHlinea c s e
  | .linea c => planLinea c s e
  | .rect c => planRect c s e
  | .frect c => planFrect c s e
  | .orect c c2 => planOrect c c2 s e
  | .recta c => planRecta c s e
  | .frecta c => planFrecta c s e
  | .orecta c c2 => planOrecta c c2 s e
  | .buildtab => planBuildtab s e
  | .circle c => planCircle c s e
  | .tabrd => planTabrd s e
  | .circlea c => planCirclea c s e
  | .fcircle rest => planFcircle rest s e
  | .ellipse rest => planEllipse rest s e
  | .fellipse rest => planFellipse rest s e
  | .itofx => planItofx s e
  | .fxtoi => planFxtoi s e
  | .fxmul => planFxmul s e
  | .fxdiv => planFxdiv s e

/-- The word the engine decodes: `CMD` (R37; there is no fetch from memory, spec/20_memory.md R72). -/
def State.fetchWord (s : State) : Word := s.cmd

/-- The running command to its end (R14): decode, then the command's meaning; an illegal word raises `E_ILLEGAL` and has
no other effect (spec/30_encoding.md R95, R97). An idle engine has no step. -/
def State.runCommand (s : State) : Host.Outcome State Fault Refusal :=
  match s.engine with
  | none => .next s
  | some _ =>
    match decode s.fetchWord with
    | .ok i => exec i s
    | .illegal _ => .next (s.raise .illegal 0 0)

/-- ONE engine step of the running command (R37): the start step, or one access. -/
def State.engineStep (s : State) : Host.Outcome State Fault Refusal :=
  match s.engine with
  | none => .next s
  | some _ =>
    match decode s.fetchWord with
    | .ok i => s.performOne (planOf i)
    | .illegal _ => .next (s.raise .illegal 0 0)

/-- `WAIT` (spec/30_encoding.md R101): the engine runs the command to its end, and the host's last read of `STATUS`, the
one that returns `BUSY == 0`, is seen; the readings before it are not recorded (DESIGN CHOICE, unsafe: log entry 5). -/
def State.waitIdle (s : State) : Host.Outcome State Fault Refusal :=
  match s.runCommand with
  | .next t => .next (t.see t.statusWord)
  | .fault r => .fault r
  | .refused r => .refused r

/-- One move of the agents of R14. -/
def State.act (s : State) : Action → Host.Outcome State Fault Refusal
  | .write off v => .next (s.hostWrite off v)
  | .read off => .next (s.see (s.hostRead off))
  | .wait => s.waitIdle
  | .engine => s.engineStep
  | .reset => .next s.resetEvent
  | .otherWrite off v =>
    if off < Config.framebufferBytes then .next (s.writeByte off v) else .fault (.noSuchByte off)
  | .otherRead off =>
    if off < Config.framebufferBytes then .next (s.see ((s.readByte off).setWidth 32)) else .fault (.noSuchByte off)
  | .narrow off => .refused (.narrowAccess off)

end Sys2Proof.Machine
end

