-- ==== Sys2Proof/Machine/Step.lean ====
section
/-! DEFINITION. One step of the machine: the next move of the outside agents, or, where they make none, the running
command (spec/00_scope.md R14). -/

namespace Sys2Proof.Machine

/-- One step. With a move waiting, that agent moves. With none, nothing can come between the engine and the end of its
command, and the command is taken whole (R14; log entry 5); an idle block has no step and its state survives
(spec/60_exceptions.md R256). -/
def step (s : State) : Host.Outcome State Fault Refusal :=
  match s.script with
  | [] => s.runCommand
  | a :: rest => { s with script := rest }.act a

/-- The state right after the `CMD` write of a word (R36) with no outside move waiting: the next step decodes and runs
exactly that word (DESIGN CHOICE: log entry 11). -/
def State.withFetchWord (s : State) (nbits w : Nat) : State :=
  { s.start (BitVec.ofNat 32 (w % 2 ^ nbits)) with script := [] }

end Sys2Proof.Machine
end

