-- ==== Sys2Proof/Machine/Assembler.lean ====
section
/-! DEFINITION. The assembler notation (spec/30_encoding.md R100, R101): a line expands to the host's register accesses,
and a program is what the host does next. -/

namespace Sys2Proof.Machine

/-- How many of `A0` to `A3` a command uses (R94). -/
def operandCount : Instr → Nat
  | .addr => 2
  | .setpix _ => 2
  | .getpix => 2
  | .sgn => 1
  | .vline _ => 3
  | .hline _ => 3
  | .line _ => 4
  | .vlinea _ => 3
  | .hlinea _ => 3
  | .linea _ => 4
  | .rect _ => 4
  | .frect _ => 4
  | .orect _ _ => 4
  | .recta _ => 4
  | .frecta _ => 4
  | .orecta _ _ => 4
  | .buildtab => 0
  | .circle _ => 3
  | .tabrd => 1
  | .circlea _ => 4
  | .fcircle _ => 0
  | .ellipse _ => 0
  | .fellipse _ => 0
  | .itofx => 1
  | .fxtoi => 1
  | .fxmul => 2
  | .fxdiv => 2

/-- One line of the notation: a command with its operands, a pseudo-instruction, or a host primitive (R100, R101). -/
inductive Line where
  | command (i : Instr) (operands : List Int)
  | wait
  | clrerr
  | clrovr
  | clrnsq
  | setgeom (w h : Nat)
  | wr (r : Reg) (v : Word)
  | rd (r : Reg)
  deriving DecidableEq, Repr

/-- A line that has an expansion: a legal command with exactly the operands it uses (R100), a geometry that fits (R30). -/
def Line.wellFormed : Line → Bool
  | .command i operands => i.wellFormed && operands.length == operandCount i
  | .wait => true
  | .clrerr => true
  | .clrovr => true
  | .clrnsq => true
  | .setgeom w h => decide (w < 65536) && decide (h < 65536)
  | .wr _ _ => true
  | .rd _ => true

/-- `WR A(k), o` for each operand in order (R101). -/
def operandWrites : Nat → List Int → List Action
  | _, [] => []
  | k, o :: os => .write (0x08 + 4 * k) (trunc32 o) :: operandWrites (k + 1) os

/-- What a line expands to (R101). -/
def Line.expand : Line → List Action
  | .command i operands => operandWrites 0 operands ++ [.write 0x00 (encode i), .wait]
  | .wait => [.wait]
  | .clrerr => [.write 0x04 0x00000002]
  | .clrovr => [.write 0x04 0x00000004]
  | .clrnsq => [.write 0x04 0x00000010]
  | .setgeom w h => [.write 0x24 (BitVec.ofNat 32 (h * 65536 + w))]
  | .wr r v => [.write r.offset v]
  | .rd r => [.read r.offset]

/-- A program: its lines performed in order (R101). -/
def assemble (lines : List Line) : List Action := lines.flatMap Line.expand

/-- The state whose host performs a program next. -/
def State.load (s : State) (lines : List Line) : State := { s with script := assemble lines }

end Sys2Proof.Machine
end

