-- ==== Sys2Proof/Safety.lean ====
section
/-! DEFINITION. What claims about runs are stated in: the invariant of the machine, and how a run of a host program ends. -/

namespace Sys2Proof.Machine

/-- What every reachable state satisfies. Each field names the rule it comes from. -/
structure State.Inv (s : State) : Prop where
  /-- The framebuffer keeps its one form (spec/20_memory.md R74). -/
  mem_wf : s.mem.wf
  /-- The table has its 1024 entries (spec/10_state.md R33). -/
  tab_length : s.tab.length = Config.tableEntries
  /-- A valid table holds TRIG_TABLE for ever (R33). -/
  tab_valid : s.tv = true → s.tab = trigTable
  /-- ERRCODE is 0 exactly while ERR is 0 (R24). -/
  code_iff : s.errcode = 0 ↔ s.err = false
  /-- Codes 6 to 15 are never written (spec/60_exceptions.md R241). -/
  code_le : s.errcode.toNat ≤ 5
  /-- No command runs while an error is recorded (R36, R252). -/
  busy_no_error : ∀ e, s.engine = some e → s.err = false
  /-- A command never sees a register change under it (R21): what it latched is what the registers hold. -/
  latched : ∀ e, s.engine = some e → e = { s.latch with pos := e.pos }
  /-- The position stands before an access of the running command (R37). -/
  position : ∀ e p, s.engine = some e → e.pos = some p →
    ∃ i, decode s.cmd = .ok i ∧ p < (planOf i s e).accesses.length

/-- The accesses of a list performed one after the other, at in-bounds points, under the geometry of `e`: what the
framebuffer and RESULT become (spec/20_memory.md R68). -/
def State.accessed (s : State) (e : Engine) (S : List Access) : State := S.foldl (fun t a => t.access e a) s

/-- `n` single engine steps (spec/10_state.md R37), stopping at a fault or a refusal. -/
def engineSteps : Nat → State → Host.Outcome State Fault Refusal
  | 0, s => .next s
  | n + 1, s =>
    match s.engineStep with
    | .next t => engineSteps n t
    | .fault r => .fault r
    | .refused r => .refused r

/-! ### The terms claims about drawing are stated in -/

/-- A command has been accepted and the engine has not started it (R36). -/
def State.accepted (s : State) (e : Engine) : Prop := s.engine = some e ∧ e.pos = none

/-- `p` lies between `a` and `b`, ends included. -/
abbrev between (p a b : Int) : Prop := min a b ≤ p ∧ p ≤ max a b

/-- From `s` to `t` exactly the points of `pix` took the colour `c`: every other byte of the framebuffer reads as before,
the command is done, and nothing else of the state has changed. -/
def painted (s t : State) (e : Engine) (pix : Int → Int → Prop) (c : Byte) : Prop :=
  t = { s with mem := t.mem, engine := none } ∧
  (∀ x y, pix x y → t.readByte (e.offset x y) = c) ∧
  (∀ o, (∀ x y, pix x y → o ≠ e.offset x y) → t.readByte o = s.readByte o)

/-- The displacement of the minor coordinate after `k` steps along the major axis (spec/42_line.md R169 (c)): major
magnitude `M`, minor magnitude `m`. -/
def minorSteps (M m k : Nat) : Nat := (k * m + m / 2) / M

/-- The point of a general line after `k` steps along its major axis (R162, R169). -/
def linePoint (x y dx dy : Int) (k : Nat) : Int × Int :=
  if dx.natAbs ≥ dy.natAbs then
    (x + sgn dx * k, y + sgn dy * minorSteps dx.natAbs dy.natAbs k)
  else (x + sgn dx * minorSteps dy.natAbs dx.natAbs k, y + sgn dy * k)

/-- The points of a general line. -/
def linePix (x y dx dy px py : Int) : Prop :=
  ∃ k, k ≤ max dx.natAbs dy.natAbs ∧ (px, py) = linePoint x y dx dy k

/-- The points of a box, ends included (spec/43_rect.md R181). -/
abbrev boxPix (x y run rise px py : Int) : Prop := between px x (x + run) ∧ between py y (y + rise)

/-- The points of a box's outline (R180). -/
abbrev outlinePix (x y run rise px py : Int) : Prop :=
  boxPix x y run rise px py ∧ (px = x ∨ px = x + run ∨ py = y ∨ py = y + rise)

/-- The points of the inset fill of an outlined box (R182, R189). -/
abbrev insetPix (x y run rise px py : Int) : Prop :=
  boxPix (x + sgn run) (y + sgn rise) (run - 2 * sgn run) (rise - 2 * sgn rise) px py

/-- `diffY` at the iteration in which `diffX` is `k` (spec/44_circle.md R205): `r - 1` at first, then the table's entry at
`k * floor(65536 / r)`, scaled down by 64 and clamped, times `r`, rescaled. -/
def circleRow (r : Int) (k : Nat) : Int :=
  if k = 0 then r - 1 else (trigEntry (min (k * (65536 / r.toNat) / 64) 1023) : Int) * r / 65536

/-- The points of a circle outline (R205): the eight images of `(k, circleRow r k)` for every iteration `k` the loop
reaches. -/
def circlePix (cx cy r px py : Int) : Prop :=
  ∃ k : Nat, (∀ j : Nat, j ≤ k → (j : Int) ≤ circleRow r j) ∧
    (((px - cx).natAbs = k ∧ ((py - cy).natAbs : Int) = circleRow r k) ∨
     (((px - cx).natAbs : Int) = circleRow r k ∧ (py - cy).natAbs = k))

/-! ### Runs -/

/-- A move that a line of a host program expands to (spec/30_encoding.md R100, R101): `WR`, `RD` or `WAIT`. -/
def Action.ofProgram : Action → Bool
  | .write _ _ => true
  | .read _ => true
  | .wait => true
  | .engine => false
  | .reset => false
  | .otherWrite _ _ => false
  | .otherRead _ => false
  | .narrow _ => false

/-- The host's program has ended: its last line has been performed (spec/70_reset_and_hazards.md R280). Other agents may
have moves left, and a program whose last line starts a command has ended while the block is busy. -/
def State.ended (s : State) : Bool := s.script.all fun a => !a.ofProgram

/-- Of an ended program's state, that no error and no dropped write is on record (R280). -/
def State.endedWell (s : State) : Bool := s.ended && !s.err && !s.ovr

/-- The run ended well (R280): no model fault occurred, and what it reached is an ended program's state with no error and
no dropped write on record. -/
def endedWell : Host.Outcome State Fault Refusal → Bool
  | .next t => t.endedWell
  | .fault _ => false
  | .refused _ => false

/-- The results of a run (R280), and nothing else: not how long it took, not what a display shows. -/
structure RunResults where
  byte : Nat → Byte
  result : Word
  status : Word
  errx : Word
  erry : Word
  tab : List Word

/-- The results at a moment (R280). -/
def State.runResults (s : State) : RunResults where
  byte := s.readByte
  result := s.result
  status := s.statusWord
  errx := s.errx
  erry := s.erry
  tab := s.tab

end Sys2Proof.Machine
end

