-- ==== Sys2Proof/Certificates/Slice0/Obligations.lean ====
section
/-! DEFINITION. The statements about the model, from the numbered rules of spec/. Hypotheses are on the state and the
operands alone; `s.accepted e` says that a command has been accepted (R36) with the latched operands `e.c0` to `e.c3` in
the coordinate view (R22). The field `script`, through which the moves of the agents of R14 reach the machine one after the
other, and the field `seen` are the model's own (log entry 4): where a hypothesis names the next move, the rule cited says
what that access does, and that a step takes one move is the model's choice. -/

open Sys2Proof Sys2Proof.Machine

/-! ### Encoding -/

/-- R91, R92, R95, R96: every command decodes from its own word, with every field at every value. -/
def Obligations.DecodeOfEncode : Prop := ∀ i : Instr, decode (encode i) = .ok i

/-- R95: a word denotes at most the command it encodes; no bit of it is dropped. -/
def Obligations.EncodeOfDecode : Prop := ∀ (w : Word) (i : Instr), decode w = .ok i → encode i = w

/-- R92: a word selects a row exactly when `(w AND mask) == match`, and no two rows match one word. -/
def Obligations.WordSelectsRowByMask : Prop :=
  ∀ w : Word,
    (∀ row ∈ opcodeTable, row.selects w = true ↔ ∃ i, decode w = .ok i ∧ i.mnemonic = row.mnemonic) ∧
    (∀ row ∈ opcodeTable, ∀ row' ∈ opcodeTable, row.selects w = true → row'.selects w = true → row = row')

/-- Words of every family and of each kind of illegal word, from spec/95_test_vectors.md V1 to V9a and P1 to P6. The
vectors say of the illegal words only that they are illegal: which reason names a word, and the order in which reasons are
tried, is the model's choice, and so is that the reserved word of V7 decodes to a command of its own whose meaning raises
the error (log entry 9). -/
def Obligations.SampleWordsDecode : Prop :=
  decode 0x00000010 = .ok .addr ∧ decode 0x00002A11 = .ok (.setpix 0x2A) ∧ decode 0x00000322 = .ok (.line 3) ∧
  decode 0x00050432 = .ok (.orect 4 5) ∧ decode 0x00000131 = .ok (.frect 1) ∧ decode 0x00000745 = .ok (.circlea 7) ∧
  decode 0x00000042 = .ok .tabrd ∧ decode 0x00000053 = .ok .fxdiv ∧ decode 0xFFFFFF49 = .ok (.ellipse 0xFFFFFF) ∧
  decode 0x01000711 = .illegal .reservedNonzero ∧ decode 0x00010711 = .illegal .color2Nonzero ∧
  decode 0x00000112 = .illegal .colorNonzero ∧ decode 0x00000000 = .illegal .unlistedOpcode ∧
  decode 0x00000023 = .illegal .unlistedOpcode

/-- R242, R14, R101: a word that selects no row, or a reserved one, raises `E_ILLEGAL` in the start step and changes nothing
but the error registers: in a step without a move, in the one engine step of an engine move, and in a `WAIT`, after which
the host has read STATUS. That `WAIT` records one reading of STATUS is the model's choice (log entry 5). -/
def Obligations.IllegalWordRaisesIllegal : Prop :=
  ∀ (s : State) (e : Engine) (rest : List Action), s.accepted e →
    (∀ row ∈ opcodeTable, row.selects s.cmd = true → row.mnemonic ∈ ["FCIRCLE", "ELLIPSE", "FELLIPSE"]) →
    (s.script = [] →
      step s = .next { s with err := true, errcode := 1, errx := 0, erry := 0, engine := none }) ∧
    (s.script = .engine :: rest →
      step s = .next { s with script := rest, err := true, errcode := 1, errx := 0, erry := 0, engine := none }) ∧
    (s.script = .wait :: rest →
      ∃ t : State, t = { s with script := rest, err := true, errcode := 1, errx := 0, erry := 0, engine := none } ∧
        step s = .next { t with seen := t.statusWord :: t.seen })

/-! ### Steps -/

/-- R37: with a command running, a step is the decoded command's meaning; under `WAIT` the host also sees the STATUS word
that ends its reading; one engine step alone is the start step or one access. That a step without a move takes the whole
command, and that `WAIT` records one reading, is the model's choice (log entry 5). -/
def Obligations.StepRunsDecodedCommand : Prop :=
  ∀ (s : State) (e : Engine) (i : Instr) (rest : List Action), s.engine = some e → decode s.cmd = .ok i →
    (s.script = [] → step s = exec i s) ∧
    (s.script = .wait :: rest →
      step s = match exec i { s with script := rest } with
        | .next t => .next { t with seen := t.statusWord :: t.seen }
        | .fault r => .fault r
        | .refused r => .refused r) ∧
    (s.script = .engine :: rest → step s = { s with script := rest }.performOne (planOf i))

/-- R14, R37, R67, R68: a command taken whole is its start step and then each of its access steps; the start step makes no
access, and each step after it makes exactly the next one: after the start step and `n` access steps the first `n` accesses
are performed, no other, and the engine stands before access `n`. -/
def Obligations.EngineStepsReachCommandEnd : Prop :=
  ∀ (s : State) (e : Engine) (i : Instr), s.accepted e → decode s.cmd = .ok i →
    engineSteps ((planOf i s e).accesses.length + 1) s = exec i s ∧
    ∀ (q : Bool) (S : List Access) (n : Nat), planOf i s e = .draw q S → n < S.length →
      (∀ a ∈ S.take n, e.inBounds a.x a.y = true) →
      engineSteps (n + 1) s = .next { s.accessed e (S.take n) with
        nsq := s.nsq || q
        engine := some { e with pos := some n } }

/-- R103, R281: every running command ends, unless it reaches an out-of-bounds point that nothing checks (R142 (c)). -/
def Obligations.BusyCommandEnds : Prop :=
  ∀ (s : State) (e : Engine), s.Inv → s.script = [] → s.engine = some e →
    (∃ t, step s = .next t ∧ t.engine = none) ∨
    (s.bchk = false ∧ ∃ x y, e.inBounds x y = false ∧ step s = .fault (.outOfBounds x y))

/-- R14, R256: an idle block has no step and its state survives; that a step of the model then answers the same state is
the model's choice (log entry 6). -/
def Obligations.IdleBlockHasNoStep : Prop :=
  ∀ s : State, s.engine = none → (s.script = [] → step s = .next s) ∧ ∀ i, exec i s = .next s

/-! ### Invariant and reset -/

/-- Every step keeps the invariant: the memory's form, the built table, ERRCODE with ERR, no command while an error is on
record, the latched operands, a legal position. -/
def Obligations.StepKeepsInvariant : Prop := ∀ s t : State, s.Inv → step s = .next t → t.Inv

/-- The invariant holds right after reset. -/
def Obligations.ResetMeetsInvariant : Prop := State.reset.Inv

/-- R39: what each register reads right after reset, the idle engine, and a framebuffer that holds what the platform left
there. (The table's entries, unspecified in R39, are log entry 1's and are not stated.) -/
def Obligations.ResetStateValues : Prop :=
  State.reset.readReg .cmd = 0 ∧ State.reset.readReg .status = 0 ∧ State.reset.readReg .a0 = 0 ∧
  State.reset.readReg .a1 = 0 ∧ State.reset.readReg .a2 = 0 ∧ State.reset.readReg .a3 = 0 ∧
  State.reset.readReg .result = 0 ∧ State.reset.readReg .errx = 0 ∧ State.reset.readReg .erry = 0 ∧
  State.reset.readReg .geom = 0x00C80140 ∧
  State.reset.readReg .id = (if Config.boundsCheck then 0x00000001 else 0x00000000) ∧
  State.reset.engine = none ∧ ∀ o, State.reset.readByte o = Config.platformByte o

/-- R270, R271: the reset event, whatever runs: every register at its reset value, ID constant, the command gone with no
error recorded, the framebuffer as it was. -/
def Obligations.ResetEventSetsRegisters : Prop :=
  ∀ (s : State) (rest : List Action), s.script = .reset :: rest →
    ∃ t, step s = .next t ∧ (∀ r : Reg, r ≠ .geom → r ≠ .id → t.readReg r = 0) ∧ t.readReg .geom = 0x00C80140 ∧
      t.readReg .id = s.readReg .id ∧ t.engine = none ∧ t.mem = s.mem ∧ t.script = rest ∧ t.seen = s.seen

/-! ### The host's accesses -/

/-- R35 (e): while idle, with or without an error on record, an operand register or GEOM takes the value, and no other
register changes. -/
def Obligations.OperandWriteAccepted : Prop :=
  ∀ (s : State) (rest : List Action) (r : Reg) (v : Word), r ∈ [Reg.a0, .a1, .a2, .a3, .geom] → s.engine = none →
    s.script = .write r.offset v :: rest →
    ∃ t, step s = .next t ∧ t.readReg r = v ∧ (∀ r', r' ≠ r → t.readReg r' = s.readReg r') ∧ t.engine = none ∧
      t.tab = s.tab ∧ t.mem = s.mem ∧ t.script = rest ∧ t.seen = s.seen

/-- R275: while a command runs, a write to an operand register, GEOM or CMD is dropped, and only OVR changes. -/
def Obligations.WriteWhileBusyDropped : Prop :=
  ∀ (s : State) (e : Engine) (rest : List Action) (r : Reg) (v : Word), r ∈ [Reg.a0, .a1, .a2, .a3, .geom, .cmd] →
    s.engine = some e → s.script = .write r.offset v :: rest →
    step s = .next { s with script := rest, ovr := true }

/-- R36: a write to CMD is dropped while a command runs or an error is on record; otherwise any word is accepted: CMD holds
it, operands and geometry are latched, the position is "not started". -/
def Obligations.CmdWriteStartsCommand : Prop :=
  ∀ (s : State) (rest : List Action) (v : Word), s.script = .write 0x00 v :: rest →
    (s.engine ≠ none ∨ s.err = true → step s = .next { s with script := rest, ovr := true }) ∧
    (s.engine = none ∧ s.err = false → step s = .next { s with
      script := rest
      cmd := v
      engine := some ⟨s.a0, s.a1, s.a2, s.a3, s.width, s.height, none⟩ })

/-- R26: a write to STATUS clears ERR with ERRCODE, OVR and NSQ by bits 1, 2 and 4, and nothing else, busy or not. -/
def Obligations.StatusWriteClears : Prop :=
  ∀ (s : State) (rest : List Action) (v : Word), s.script = .write 0x04 v :: rest →
    ∃ t, step s = .next t ∧
      t = { s with script := rest, err := t.err, errcode := t.errcode, ovr := t.ovr, nsq := t.nsq } ∧
      (v.getLsbD 1 = true → t.err = false ∧ t.errcode = 0) ∧
      (v.getLsbD 1 = false → t.err = s.err ∧ t.errcode = s.errcode) ∧
      t.ovr = (s.ovr && !v.getLsbD 2) ∧ t.nsq = (s.nsq && !v.getLsbD 4)

/-- R32, R35 (b): a write to a read-only register or to an offset with no register changes nothing. -/
def Obligations.ReadOnlyAndUnmappedWritesIgnored : Prop :=
  ∀ (s : State) (rest : List Action) (off : Nat) (v : Word), s.script = .write off v :: rest →
    (off ∈ [0x18, 0x1C, 0x20, 0x28] ∨ off ≥ 0x2C ∨ off % 4 ≠ 0) → step s = .next { s with script := rest }

/-- R34, R24, R30, R31: a read changes nothing of the block and gives the register's word, whose fields stand at their
bits; an offset with no register reads as 0 (R32). -/
def Obligations.HostReadReturnsRegister : Prop :=
  ∀ (s : State) (rest : List Action) (off : Nat), s.script = .read off :: rest →
    ∃ v, step s = .next { s with script := rest, seen := v :: s.seen } ∧
      (off = 0x00 → v = s.cmd) ∧
      (off = 0x04 → v.getLsbD 0 = s.engine.isSome ∧ v.getLsbD 1 = s.err ∧ v.getLsbD 2 = s.ovr ∧ v.getLsbD 3 = s.tv ∧
        v.getLsbD 4 = s.nsq ∧ v.extractLsb' 5 3 = 0 ∧ v.extractLsb' 8 4 = s.errcode ∧ v.extractLsb' 12 20 = 0) ∧
      (off = 0x08 → v = s.a0) ∧ (off = 0x0C → v = s.a1) ∧ (off = 0x10 → v = s.a2) ∧ (off = 0x14 → v = s.a3) ∧
      (off = 0x18 → v = s.result) ∧ (off = 0x1C → v = s.errx) ∧ (off = 0x20 → v = s.erry) ∧
      (off = 0x24 → v.extractLsb' 0 16 = s.width ∧ v.extractLsb' 16 16 = s.height) ∧
      (off = 0x28 → v = if s.bchk then 1 else 0) ∧
      (off ≥ 0x2C ∨ off % 4 ≠ 0 → v = 0)

/-- R62: an access that is not one aligned 32-bit word's is refused (its form as a move is the model's, log entry 8). -/
def Obligations.NarrowAccessRefused : Prop :=
  ∀ (s : State) (rest : List Action) (off : Nat), s.script = .narrow off :: rest →
    step s = .refused (.narrowAccess off)

/-- R67, R70: at any time, another agent's write changes the one byte, which the block neither detects nor fails on, and
another agent's read gives the byte as the accesses performed so far left it and changes nothing of the block. -/
def Obligations.OtherAgentWritesOneByte : Prop :=
  ∀ (s : State) (rest : List Action) (o : Nat), o < 65535 * 65535 →
    (∀ v : Byte, s.script = .otherWrite o v :: rest →
      ∃ t, step s = .next t ∧ t = { s with script := rest, mem := t.mem } ∧ t.readByte o = v ∧
        ∀ o', o' ≠ o → t.readByte o' = s.readByte o') ∧
    (s.script = .otherRead o :: rest →
      step s = .next { s with script := rest, seen := (s.readByte o).setWidth 32 :: s.seen })

/-- R251: while an error is on record no command is accepted; CLRERR clears it, keeps ERRX and ERRY, and the next CMD
write starts a command. -/
def Obligations.ErrorBlocksUntilAcknowledged : Prop :=
  ∀ (s : State) (rest : List Action) (v w : Word), s.engine = none → s.err = true →
    s.script = .write 0x00 v :: .write 0x04 0x2 :: .write 0x00 w :: rest →
    Sys2Proof.core.run 3 s = .next { s with
      script := rest
      err := false
      errcode := 0
      ovr := true
      cmd := w
      engine := some ⟨s.a0, s.a1, s.a2, s.a3, s.width, s.height, none⟩ }

/-- R14, R101, R280: a command line of the notation is one call: its operand writes, its CMD write and its WAIT are the
command's meaning on the operands as written; that `WAIT` records one reading of STATUS is the model's choice (log entry 5).
A program of lines, none of which writes CMD without a `WAIT`, ends, and the block is then idle, unless it reaches an
out-of-bounds point that nothing checks. -/
def Obligations.CommandLineIsOneCall : Prop :=
  (∀ (s : State) (lines : List Line), s.engine = none → (∀ l ∈ lines, ∀ v, l ≠ .wr .cmd v) →
    s.script = assemble lines →
    (∃ t, Sys2Proof.core.run s.script.length s = .next t ∧ t.ended = true ∧ t.engine = none) ∨
    (s.bchk = false ∧ ∃ x y, Sys2Proof.core.run s.script.length s = .fault (.outOfBounds x y))) ∧
  ∀ (s : State) (i : Instr) (os : List Int), s.engine = none → s.err = false →
    (Line.command i os).wellFormed = true → s.script = (Line.command i os).expand →
    Sys2Proof.core.run (os.length + 2) s =
      match exec i (({ s with
          script := []
          a0 := (os[0]?).elim s.a0 trunc32
          a1 := (os[1]?).elim s.a1 trunc32
          a2 := (os[2]?).elim s.a2 trunc32
          a3 := (os[3]?).elim s.a3 trunc32 } : State).start (encode i)) with
      | .next t => .next { t with seen := t.statusWord :: t.seen }
      | .fault r => .fault r
      | .refused r => .refused r

/-! ### Points and the pixel surface -/

/-- R22, R93: the coordinate view is the low half, signed; bits 31:16 are ignored. -/
def Obligations.CoordIsSignedLowHalf : Prop :=
  ∀ v : Word, coord v = (v.extractLsb' 0 16).toInt ∧ -32768 ≤ coord v ∧ coord v ≤ 32767

/-- R74: an in-bounds point has its offset inside the framebuffer, and distinct in-bounds points have distinct offsets. -/
def Obligations.InBoundsOffsetsDistinct : Prop :=
  ∀ (e : Engine) (x y x' y' : Int), e.inBounds x y = true → e.inBounds x' y' = true →
    (e.offset x y : Int) = y * e.w.toNat + x ∧ e.offset x y < e.w.toNat * e.h.toNat ∧ e.offset x y < 2 ^ 32 ∧
      (e.offset x y = e.offset x' y' → x = x' ∧ y = y')

/-- R141: for `W == 320` the shift form gives the same number, for negative `y` as well. -/
def Obligations.ShiftFormAgrees : Prop :=
  ∀ (e : Engine) (x y : Int), e.w = 320 → shl y 8 + shl y 6 + x = e.addr x y

/-- R147: ADDR, word `0x10`, gives the exact offset of any point, in or out of bounds, and changes nothing else. -/
def Obligations.AddrResult : Prop :=
  decode 0x00000010 = .ok .addr ∧
  ∀ (s : State) (e : Engine), s.accepted e →
    ∃ v, exec .addr s = .next { s with result := v, engine := none } ∧
      v.toInt = (e.l1.extractLsb' 0 16).toInt * e.w.toNat + (e.l0.extractLsb' 0 16).toInt

/-- R148, R64: SETPIX at an in-bounds point writes that point's byte and no other. -/
def Obligations.SetpixWritesPixel : Prop :=
  ∀ (c : Byte) (s : State) (e : Engine), s.accepted e → e.inBounds e.c0 e.c1 = true →
    ∃ t, exec (.setpix c) s = .next t ∧ painted s t e (fun x y => x = e.c0 ∧ y = e.c1) c

/-- R149: GETPIX at an in-bounds point puts that point's byte, zero-extended, into RESULT and writes no memory. -/
def Obligations.GetpixReadsPixel : Prop :=
  ∀ (s : State) (e : Engine), s.accepted e → e.inBounds e.c0 e.c1 = true →
    exec .getpix s =
      .next { s with result := (s.readByte (e.c1 * e.w.toNat + e.c0).toNat).setWidth 32, engine := none }

/-- R150: SGN, word `0x13`, on all 32 bits. -/
def Obligations.SgnResult : Prop :=
  decode 0x00000013 = .ok .sgn ∧
  ∀ (s : State) (e : Engine), s.accepted e →
    exec .sgn s = .next { s with
      result := if e.l0.toInt < 0 then 0xFFFFFFFF else if e.l0.toInt = 0 then 0 else 1
      engine := none }

/-- R151: SETPIX then GETPIX of one in-bounds point, run by a waiting host, returns the colour. -/
def Obligations.SetThenGet : Prop :=
  ∀ (s : State) (x y : Int) (c : Byte), s.engine = none → s.err = false →
    0 ≤ x → x < s.width.toNat → x ≤ 32767 → 0 ≤ y → y < s.height.toNat → y ≤ 32767 →
    s.script = assemble [.command (.setpix c) [x, y], .command .getpix [x, y]] →
    ∃ t, Sys2Proof.core.run 8 s = .next t ∧ t.result = c.setWidth 32 ∧ t.ended = true ∧ t.engine = none ∧
      t.err = false ∧ t.ovr = s.ovr

/-! ### Lines -/

/-- R160, R161: the access sequences of VLine and HLine, in order. -/
def Obligations.AxisLineSequences : Prop :=
  ∀ (x y d : Int) (c : Byte),
    vline x y d c = (List.range (d.natAbs + 1)).map (fun k : Nat => Access.plot x (y + sgn d * k) c) ∧
    hline x y d c = (List.range (d.natAbs + 1)).map (fun k : Nat => Access.plot (x + sgn d * k) y c)

/-- R162, R169 (a), (c): BLine makes one write per major step, start first, and after `k` steps the minor coordinate has
moved `floor((k * m + floor(m / 2)) / M)`; the last pixel is the end point. -/
def Obligations.LineSequence : Prop :=
  ∀ (x y dx dy : Int) (c : Byte),
    bline x y dx dy c =
      (List.range (max dx.natAbs dy.natAbs + 1)).map (fun k =>
        Access.plot (linePoint x y dx dy k).1 (linePoint x y dx dy k).2 c) ∧
    linePoint x y dx dy 0 = (x, y) ∧ linePoint x y dx dy (max dx.natAbs dy.natAbs) = (x + dx, y + dy)

/-- R170: a general line along an axis has the sequence of the axis procedure. -/
def Obligations.AxisLinesAgree : Prop :=
  ∀ (x y d : Int) (c : Byte), bline x y d 0 c = hline x y d c ∧ (d ≠ 0 → bline x y 0 d c = vline x y d c)

/-- R171: the smallest example in which the reversed line is another set of points. -/
def Obligations.ReversedLineDiffers : Prop :=
  (bline 0 0 4 2 7).map (fun a => (a.x, a.y)) = [(0, 0), (1, 0), (2, 1), (3, 1), (4, 2)] ∧
  (bline 4 2 (-4) (-2) 7).map (fun a => (a.x, a.y)) = [(4, 2), (3, 2), (2, 1), (1, 1), (0, 0)]

/-- R163, R165: VLINE and VLINEA with both end points in bounds draw the column between them and nothing else. -/
def Obligations.VerticalLinesDraw : Prop :=
  ∀ (c : Byte) (s : State) (e : Engine), s.accepted e → e.inBounds e.c0 e.c1 = true →
    (e.inBounds e.c0 (e.c1 + e.c2) = true →
      ∃ t, exec (.vline c) s = .next t ∧ painted s t e (fun x y => x = e.c0 ∧ between y e.c1 (e.c1 + e.c2)) c) ∧
    (e.inBounds e.c0 e.c2 = true →
      ∃ t, exec (.vlinea c) s = .next t ∧ painted s t e (fun x y => x = e.c0 ∧ between y e.c1 e.c2) c)

/-- R164, R166: HLINE and HLINEA with both end points in bounds draw the row between them and nothing else. -/
def Obligations.HorizontalLinesDraw : Prop :=
  ∀ (c : Byte) (s : State) (e : Engine), s.accepted e → e.inBounds e.c0 e.c1 = true →
    (e.inBounds (e.c0 + e.c2) e.c1 = true →
      ∃ t, exec (.hline c) s = .next t ∧ painted s t e (fun x y => y = e.c1 ∧ between x e.c0 (e.c0 + e.c2)) c) ∧
    (e.inBounds e.c2 e.c1 = true →
      ∃ t, exec (.hlinea c) s = .next t ∧ painted s t e (fun x y => y = e.c1 ∧ between x e.c0 e.c2) c)

/-- R167, R168: LINE and LINEA with both end points in bounds draw the points of the general line and nothing else. -/
def Obligations.GeneralLinesDraw : Prop :=
  ∀ (c : Byte) (s : State) (e : Engine), s.accepted e → e.inBounds e.c0 e.c1 = true →
    (e.inBounds (e.c0 + e.c2) (e.c1 + e.c3) = true →
      ∃ t, exec (.line c) s = .next t ∧ painted s t e (linePix e.c0 e.c1 e.c2 e.c3) c) ∧
    (e.inBounds e.c2 e.c3 = true →
      ∃ t, exec (.linea c) s = .next t ∧ painted s t e (linePix e.c0 e.c1 (e.c2 - e.c0) (e.c3 - e.c1)) c)

/-! ### Rectangles -/

/-- R183, R186: RECT and RECTA with both corners in bounds draw the box's outline and nothing else. -/
def Obligations.OutlinesDraw : Prop :=
  ∀ (c : Byte) (s : State) (e : Engine), s.accepted e → e.inBounds e.c0 e.c1 = true →
    (e.inBounds (e.c0 + e.c2) (e.c1 + e.c3) = true →
      ∃ t, exec (.rect c) s = .next t ∧ painted s t e (outlinePix e.c0 e.c1 e.c2 e.c3) c) ∧
    (e.inBounds e.c2 e.c3 = true →
      ∃ t, exec (.recta c) s = .next t ∧ painted s t e (outlinePix e.c0 e.c1 (e.c2 - e.c0) (e.c3 - e.c1)) c)

/-- R184, R187: FRECT and FRECTA with both corners in bounds fill the box and nothing else. -/
def Obligations.FilledBoxesDraw : Prop :=
  ∀ (c : Byte) (s : State) (e : Engine), s.accepted e → e.inBounds e.c0 e.c1 = true →
    (e.inBounds (e.c0 + e.c2) (e.c1 + e.c3) = true →
      ∃ t, exec (.frect c) s = .next t ∧ painted s t e (boxPix e.c0 e.c1 e.c2 e.c3) c) ∧
    (e.inBounds e.c2 e.c3 = true →
      ∃ t, exec (.frecta c) s = .next t ∧ painted s t e (boxPix e.c0 e.c1 (e.c2 - e.c0) (e.c3 - e.c1)) c)

/-- R185, R188, R189: ORECT and ORECTA with both corners in bounds leave the inset box in the fill colour, the rest of the
outline in the outline colour, and every other byte as it was: small boxes too, whose inset covers their outline. -/
def Obligations.OutlinedBoxesDraw : Prop :=
  ∀ (c c2 : Byte) (s : State) (e : Engine) (i : Instr) (run rise : Int), s.accepted e → e.inBounds e.c0 e.c1 = true →
    e.inBounds (e.c0 + run) (e.c1 + rise) = true →
    (i = .orect c c2 ∧ run = e.c2 ∧ rise = e.c3 ∨ i = .orecta c c2 ∧ run = e.c2 - e.c0 ∧ rise = e.c3 - e.c1) →
    ∃ t, exec i s = .next t ∧ t = { s with mem := t.mem, engine := none } ∧
      (∀ x y, insetPix e.c0 e.c1 run rise x y → t.readByte (e.offset x y) = c2) ∧
      (∀ x y, outlinePix e.c0 e.c1 run rise x y → ¬ insetPix e.c0 e.c1 run rise x y →
        t.readByte (e.offset x y) = c) ∧
      (∀ o, (∀ x y, outlinePix e.c0 e.c1 run rise x y ∨ insetPix e.c0 e.c1 run rise x y → o ≠ e.offset x y) →
        t.readByte o = s.readByte o)

/-- R281: how many accesses a drawing command makes when it completes. -/
def Obligations.AccessCounts : Prop :=
  ∀ (x y run rise : Int) (c c2 : Byte) (tab : List Word),
    (vline x y run c).length = run.natAbs + 1 ∧ (hline x y run c).length = run.natAbs + 1 ∧
    (bline x y run rise c).length = max run.natAbs rise.natAbs + 1 ∧
    (rectOutline x y run rise c).length = 2 * (run.natAbs + 1) + 2 * (rise.natAbs + 1) ∧
    (fillRect x y run rise c).length = (run.natAbs + 1) * (rise.natAbs + 1) ∧
    (outlinedRect x y run rise c c2).length = 2 * (run.natAbs + 1) + 2 * (rise.natAbs + 1) +
      ((run - 2 * sgn run).natAbs + 1) * ((rise - 2 * sgn rise).natAbs + 1) ∧
    (circle tab x y run c).length ≤ 8 * (run + 1).toNat ∧ 8 ∣ (circle tab x y run c).length ∧
    (run ≤ 0 → circle tab x y run c = [])

/-! ### The table and circles -/

/-- R230: every entry is the floor of `65536 * sqrt(1 - (i / 1024)^2)`. -/
def Obligations.TrigEntriesExact : Prop :=
  trigTable.length = 1024 ∧
  ∀ i, i < 1024 →
    (tabEntry trigTable i).toNat * (tabEntry trigTable i).toNat ≤ 4096 * (1048576 - i * i) ∧
    4096 * (1048576 - i * i) < ((tabEntry trigTable i).toNat + 1) * ((tabEntry trigTable i).toNat + 1)

/-- R232: the generated table is the listed one. -/
def Obligations.TrigTableIsListing : Prop := trigTable.map BitVec.toNat = trigListing

/-- R231 (b), (c), (d): every entry lies in [2895, 65536], the table never increases and is level at exactly seven places,
and the two check values. -/
def Obligations.TrigTableProperties : Prop :=
  (∀ i, i < 1024 → 2895 ≤ trigEntry i ∧ trigEntry i ≤ 65536) ∧
  (∀ i, i < 1023 → trigEntry (i + 1) ≤ trigEntry i ∧
    (trigEntry (i + 1) = trigEntry i ↔ i ∈ [1, 2, 3, 4, 6, 8, 10])) ∧
  ((List.range 1024).map trigEntry).sum = 52738804 ∧
  ((List.range 1024).map trigEntry).foldl (· ^^^ ·) 0 = 73132

/-- R200: BUILDTAB writes the whole table and TV, and nothing else; a second build gives the same table. -/
def Obligations.BuildtabCompletes : Prop :=
  ∀ (s : State) (e : Engine), s.accepted e →
    exec .buildtab s = .next { s with tab := trigTable, tv := true, engine := none }

/-- R202: TABRD with a built table: the entry at an index from 0 to 1023, `E_OPERAND` at any other. -/
def Obligations.TabrdResult : Prop :=
  ∀ (s : State) (e : Engine), s.accepted e → s.tv = true →
    (0 ≤ e.c0 ∧ e.c0 ≤ 1023 →
      exec .tabrd s = .next { s with result := s.tab.getD e.c0.toNat 0, engine := none }) ∧
    (e.c0 < 0 ∨ 1023 < e.c0 →
      exec .tabrd s = .next { s with err := true, errcode := 5, errx := 0, erry := 0, engine := none })

/-- R244: without a built table CIRCLE, CIRCLEA and TABRD raise `E_TABLE` before any access, whatever the operands. -/
def Obligations.TableCommandsNeedTable : Prop :=
  ∀ (c : Byte) (s : State) (e : Engine) (i : Instr), i ∈ [Instr.circle c, .circlea c, .tabrd] → s.accepted e →
    s.tv = false → exec i s = .next { s with err := true, errcode := 3, errx := 0, erry := 0, engine := none }

/-- R205, R206, R208: the circle's sequence is eight writes for each iteration in order, the iterations are those before
`diffX` first exceeds `diffY`, and there are at most `r + 1`. -/
def Obligations.CircleSequence : Prop :=
  ∀ (cx cy r : Int) (c : Byte),
    ∃ K : Nat, K ≤ (r + 1).toNat ∧ (∀ k : Nat, k < K → (k : Int) ≤ circleRow r k) ∧ circleRow r K < K ∧
      circle trigTable cx cy r c = (List.range K).flatMap (fun k : Nat => octants cx cy k (circleRow r k) c)

/-- R210: CIRCLE with the table built and every point in bounds draws the circle's points and nothing else; for a radius
of 0 or less there are none. -/
def Obligations.CircleDraws : Prop :=
  ∀ (c : Byte) (s : State) (e : Engine), s.accepted e → s.tv = true → s.tab = trigTable →
    (∀ x y, circlePix e.c0 e.c1 e.c2 x y → e.inBounds x y = true) →
    ∃ t, exec (.circle c) s = .next t ∧ painted s t e (circlePix e.c0 e.c1 e.c2) c

/-- R211: CIRCLEA takes half the x delta as radius and half of each delta to the centre, rounding toward zero, draws as
CIRCLE does, and sets NSQ when the deltas differ. -/
def Obligations.CircleaDraws : Prop :=
  ∀ (c : Byte) (s : State) (e : Engine) (cx cy r : Int), s.accepted e → s.tv = true → s.tab = trigTable →
    r = Int.tdiv (e.c2 - e.c0) 2 → cx = e.c0 + r → cy = e.c1 + Int.tdiv (e.c3 - e.c1) 2 →
    (∀ x y, circlePix cx cy r x y → e.inBounds x y = true) →
    ∃ t, exec (.circlea c) s = .next t ∧
      painted { s with nsq := s.nsq || decide (e.c2 - e.c0 ≠ e.c3 - e.c1) } t e (circlePix cx cy r) c

/-- R213: a word with one of the three reserved opcodes, whatever its other bits, raises `E_ILLEGAL` in the start step and
has no other effect. The first half, that such a word decodes to a command that keeps its other 24 bits, is the model's
choice (log entry 9; R95 calls the word illegal); the raise is the rule's. -/
def Obligations.ReservedOpcodesRaise : Prop :=
  (∀ w : Word, (w.extractLsb' 0 8 = 0x48 → decode w = .ok (.fcircle (w.extractLsb' 8 24))) ∧
    (w.extractLsb' 0 8 = 0x49 → decode w = .ok (.ellipse (w.extractLsb' 8 24))) ∧
    (w.extractLsb' 0 8 = 0x4A → decode w = .ok (.fellipse (w.extractLsb' 8 24)))) ∧
  ∀ (rest : BitVec 24) (s : State) (e : Engine) (i : Instr),
    i ∈ [Instr.fcircle rest, .ellipse rest, .fellipse rest] → s.accepted e →
    exec i s = .next { s with err := true, errcode := 1, errx := 0, erry := 0, engine := none }

/-! ### Fixed point -/

/-- R123, R124, R125: ITOFX, FXTOI and FXMUL: the exact integer, rounded down where a fraction is lost, kept to 32 bits. -/
def Obligations.FixedPointResults : Prop :=
  ∀ (s : State) (e : Engine), s.accepted e →
    exec .itofx s = .next { s with result := e.l0.extractLsb' 0 16 ++ (0 : BitVec 16), engine := none } ∧
    exec .fxtoi s = .next { s with result := (e.l0.extractLsb' 16 16).signExtend 32, engine := none } ∧
    ∃ q : Int, q * 65536 ≤ e.l0.toInt * e.l1.toInt ∧ e.l0.toInt * e.l1.toInt < (q + 1) * 65536 ∧
      exec .fxmul s = .next { s with result := BitVec.ofInt 32 q, engine := none }

/-- R126, R247: FXDIV: the quotient rounded toward zero, kept to 32 bits; a zero divisor raises `E_DIVZ` and leaves
RESULT. -/
def Obligations.FxdivResult : Prop :=
  ∀ (s : State) (e : Engine), s.accepted e →
    (e.l1 ≠ 0 →
      ∃ q : Int, q.natAbs * e.l1.toInt.natAbs ≤ e.l0.toInt.natAbs * 65536 ∧
        e.l0.toInt.natAbs * 65536 < (q.natAbs + 1) * e.l1.toInt.natAbs ∧ 0 ≤ q * (e.l0.toInt * e.l1.toInt) ∧
        exec .fxdiv s = .next { s with result := BitVec.ofInt 32 q, engine := none }) ∧
    (e.l1 = 0 → exec .fxdiv s = .next { s with err := true, errcode := 4, errx := 0, erry := 0, engine := none })

/-! ### Errors and frames -/

/-- R142, R246: a drawing command or GETPIX stops at the first out-of-bounds access of its sequence: with the check built
in, `E_OOB` names the point and the accesses before it stay performed; without it, the model fault. -/
def Obligations.OutOfBoundsStops : Prop :=
  ∀ (i : Instr) (s : State) (e : Engine) (q : Bool) (before after : List Access) (a : Access), s.accepted e →
    planOf i s e = .draw q (before ++ a :: after) → (∀ b ∈ before, e.inBounds b.x b.y = true) →
    e.inBounds a.x a.y = false →
    (s.bchk = true → exec i s = .next { s.accessed e before with
      nsq := s.nsq || q
      err := true
      errcode := 2
      errx := BitVec.ofInt 32 a.x
      erry := BitVec.ofInt 32 a.y
      engine := none }) ∧
    (s.bchk = false → exec i s = .fault (.outOfBounds a.x a.y))

/-- R145: every point of every command's sequence lies in [-65536, 65535] on both axes. -/
def Obligations.AccessPointsInRange : Prop :=
  ∀ (i : Instr) (s : State) (e : Engine), (s.tv = true → s.tab = trigTable) →
    ∀ a ∈ (planOf i s e).accesses, -65536 ≤ a.x ∧ a.x ≤ 65535 ∧ -65536 ≤ a.y ∧ a.y ≤ 65535

/-- R21, R25, R27, R30, R245: no command writes an operand register, CMD, GEOM, OVR or ID, however it ends. -/
def Obligations.CommandFrame : Prop :=
  ∀ (i : Instr) (s t : State), exec i s = .next t →
    t.a0 = s.a0 ∧ t.a1 = s.a1 ∧ t.a2 = s.a2 ∧ t.a3 = s.a3 ∧ t.cmd = s.cmd ∧ t.width = s.width ∧
      t.height = s.height ∧ t.ovr = s.ovr ∧ t.bchk = s.bchk ∧ t.script = s.script ∧ t.seen = s.seen

/-- R25, R28, R200: which commands change RESULT, the table, TV and NSQ, and that a command ending in an error leaves
RESULT. -/
def Obligations.RegisterWriters : Prop :=
  ∀ (i : Instr) (s t : State) (e : Engine), s.accepted e → s.err = false → exec i s = .next t →
    (t.err = true ∨ i ∉ [.addr, .getpix, .sgn, .tabrd, .itofx, .fxtoi, .fxmul, .fxdiv] → t.result = s.result) ∧
    t.tv = (s.tv || decide (i = .buildtab)) ∧ t.tab = (if i = .buildtab then trigTable else s.tab) ∧
    t.nsq = (s.nsq || (i.mnemonic == "CIRCLEA" && s.tv && decide (e.c2 - e.c0 ≠ e.c3 - e.c1)))

/-- R64, R246: no command, completed or stopped, changes a byte outside the framebuffer of the geometry it latched. -/
def Obligations.FramebufferConfined : Prop :=
  ∀ (i : Instr) (s t : State) (e : Engine) (o : Nat), s.engine = some e → exec i s = .next t →
    e.w.toNat * e.h.toNat ≤ o → t.readByte o = s.readByte o

/-- R60, R144: only GETPIX reads the framebuffer: every other command ends the same way and leaves the same registers on
any contents, and it writes the same bytes: each byte ends with one value on both contents, or as it was on both. -/
def Obligations.OnlyGetpixReads : Prop :=
  ∀ (i : Instr) (s t : State) (e : Engine) (m : Memory), s.accepted e → i ≠ .getpix → exec i s = .next t →
    ∃ t', exec i { s with mem := m } = .next t' ∧ t' = { t with mem := t'.mem } ∧
      ∀ o, t'.readByte o = t.readByte o ∨
        (t.readByte o = s.readByte o ∧ t'.readByte o = ({ s with mem := m } : State).readByte o)
end

