-- ==== Sys2Proof/Laws/Decode.lean ====
section
/-! SUPPORT. The fields of the words the encoder writes, and what each format's decoding accepts. -/

namespace Sys2Proof

@[simp] theorem opField_wordCC (op c c2 : Byte) : opField (wordCC op c c2) = op := by
  apply BitVec.eq_of_getLsbD_eq
  intro i hi
  simp only [opField, wordCC, BitVec.getLsbD_extractLsb', BitVec.getLsbD_append]
  simp [hi]

@[simp] theorem colorField_wordCC (op c c2 : Byte) : colorField (wordCC op c c2) = c := by
  apply BitVec.eq_of_getLsbD_eq
  intro i hi
  simp only [colorField, wordCC, BitVec.getLsbD_extractLsb', BitVec.getLsbD_append]
  simp [hi]

@[simp] theorem color2Field_wordCC (op c c2 : Byte) : color2Field (wordCC op c c2) = c2 := by
  apply BitVec.eq_of_getLsbD_eq
  intro i hi
  have h1 : ¬ 16 + i < 8 := by omega
  have h2 : ¬ 16 + i - 8 < 8 := by omega
  have h3 : 16 + i - 8 - 8 = i := by omega
  simp only [color2Field, wordCC, BitVec.getLsbD_extractLsb', BitVec.getLsbD_append, h1, h2, h3]
  simp [hi]

@[simp] theorem rsvField_wordCC (op c c2 : Byte) : rsvField (wordCC op c c2) = 0 := by
  apply BitVec.eq_of_getLsbD_eq
  intro i hi
  have h1 : ¬ 24 + i < 8 := by omega
  have h2 : ¬ 24 + i - 8 < 8 := by omega
  have h3 : ¬ 24 + i - 8 - 8 < 8 := by omega
  simp only [rsvField, wordCC, BitVec.getLsbD_extractLsb', BitVec.getLsbD_append, h1, h2, h3]
  simp

@[simp] theorem opField_wordX (op : Byte) (rest : BitVec 24) : opField (wordX op rest) = op := by
  apply BitVec.eq_of_getLsbD_eq
  intro i hi
  simp only [opField, wordX, BitVec.getLsbD_extractLsb', BitVec.getLsbD_append]
  simp [hi]

@[simp] theorem restField_wordX (op : Byte) (rest : BitVec 24) : restField (wordX op rest) = rest := by
  apply BitVec.eq_of_getLsbD_eq
  intro i hi
  simp only [restField, wordX, BitVec.getLsbD_extractLsb', BitVec.getLsbD_append]
  simp [hi]

/-- A word is put together from its four fields (spec/30_encoding.md R91). -/
theorem word_eq_fields (w : Word) : w = rsvField w ++ color2Field w ++ colorField w ++ opField w := by
  apply BitVec.eq_of_getLsbD_eq
  intro i hi
  simp only [BitVec.getLsbD_append, rsvField, color2Field, colorField, opField, BitVec.getLsbD_extractLsb']
  split
  · simp_all
  · split
    · have : 8 + (i - 8) = i := by omega
      simp_all
    · split
      · have : 16 + (i - 8 - 8) = i := by omega
        simp_all
      · have h1 : 24 + (i - 8 - 8 - 8) = i := by omega
        have h2 : i - 8 - 8 - 8 < 8 := by omega
        simp [h1, h2]

/-- A word is its opcode below the 24 bits that format X leaves alone (R92). -/
theorem word_eq_rest (w : Word) : w = wordX (opField w) (restField w) := by
  apply BitVec.eq_of_getLsbD_eq
  intro i hi
  simp only [wordX, BitVec.getLsbD_append, restField, opField, BitVec.getLsbD_extractLsb']
  split
  · simp_all
  · have h1 : 8 + (i - 8) = i := by omega
    have h2 : i - 8 < 24 := by omega
    simp [h1, h2]

/-- What format CC accepts (R92). -/
theorem decodeCC_ok (w : Word) (mk : Byte → Byte → Instr) (i : Instr) :
    decodeCC w mk = .ok i ↔ rsvField w = 0 ∧ mk (colorField w) (color2Field w) = i := by
  unfold decodeCC
  split <;> simp_all

/-- What format C accepts (R92). -/
theorem decodeC_ok (w : Word) (mk : Byte → Instr) (i : Instr) :
    decodeC w mk = .ok i ↔ rsvField w = 0 ∧ color2Field w = 0 ∧ mk (colorField w) = i := by
  unfold decodeC
  split
  · simp_all
  · split <;> simp_all

/-- What format N accepts (R92). -/
theorem decodeN_ok (w : Word) (j i : Instr) :
    decodeN w j = .ok i ↔ rsvField w = 0 ∧ color2Field w = 0 ∧ colorField w = 0 ∧ j = i := by
  unfold decodeN
  split
  · simp_all
  · split
    · simp_all
    · split <;> simp_all

end Sys2Proof
end

