-- ==== Sys2Proof/Laws/State.lean ====
section
/-! SUPPORT. One lemma for each field of State after each of its updates, so that no later proof unfolds a record update. -/

namespace Sys2Proof.Machine

variable (s : State)

/-! ### writeByte -/

@[simp] theorem State.writeByte_cmd (o : Nat) (v : Byte) : (s.writeByte o v).cmd = s.cmd := rfl
@[simp] theorem State.writeByte_err (o : Nat) (v : Byte) : (s.writeByte o v).err = s.err := rfl
@[simp] theorem State.writeByte_ovr (o : Nat) (v : Byte) : (s.writeByte o v).ovr = s.ovr := rfl
@[simp] theorem State.writeByte_tv (o : Nat) (v : Byte) : (s.writeByte o v).tv = s.tv := rfl
@[simp] theorem State.writeByte_nsq (o : Nat) (v : Byte) : (s.writeByte o v).nsq = s.nsq := rfl
@[simp] theorem State.writeByte_errcode (o : Nat) (v : Byte) : (s.writeByte o v).errcode = s.errcode := rfl
@[simp] theorem State.writeByte_a0 (o : Nat) (v : Byte) : (s.writeByte o v).a0 = s.a0 := rfl
@[simp] theorem State.writeByte_a1 (o : Nat) (v : Byte) : (s.writeByte o v).a1 = s.a1 := rfl
@[simp] theorem State.writeByte_a2 (o : Nat) (v : Byte) : (s.writeByte o v).a2 = s.a2 := rfl
@[simp] theorem State.writeByte_a3 (o : Nat) (v : Byte) : (s.writeByte o v).a3 = s.a3 := rfl
@[simp] theorem State.writeByte_result (o : Nat) (v : Byte) : (s.writeByte o v).result = s.result := rfl
@[simp] theorem State.writeByte_errx (o : Nat) (v : Byte) : (s.writeByte o v).errx = s.errx := rfl
@[simp] theorem State.writeByte_erry (o : Nat) (v : Byte) : (s.writeByte o v).erry = s.erry := rfl
@[simp] theorem State.writeByte_width (o : Nat) (v : Byte) : (s.writeByte o v).width = s.width := rfl
@[simp] theorem State.writeByte_height (o : Nat) (v : Byte) : (s.writeByte o v).height = s.height := rfl
@[simp] theorem State.writeByte_bchk (o : Nat) (v : Byte) : (s.writeByte o v).bchk = s.bchk := rfl
@[simp] theorem State.writeByte_tab (o : Nat) (v : Byte) : (s.writeByte o v).tab = s.tab := rfl
@[simp] theorem State.writeByte_engine (o : Nat) (v : Byte) : (s.writeByte o v).engine = s.engine := rfl
@[simp] theorem State.writeByte_mem (o : Nat) (v : Byte) : (s.writeByte o v).mem = s.mem.write o v := rfl
@[simp] theorem State.writeByte_script (o : Nat) (v : Byte) : (s.writeByte o v).script = s.script := rfl
@[simp] theorem State.writeByte_seen (o : Nat) (v : Byte) : (s.writeByte o v).seen = s.seen := rfl

/-! ### setEngine -/

@[simp] theorem State.setEngine_cmd (g : Option Engine) : (s.setEngine g).cmd = s.cmd := rfl
@[simp] theorem State.setEngine_err (g : Option Engine) : (s.setEngine g).err = s.err := rfl
@[simp] theorem State.setEngine_ovr (g : Option Engine) : (s.setEngine g).ovr = s.ovr := rfl
@[simp] theorem State.setEngine_tv (g : Option Engine) : (s.setEngine g).tv = s.tv := rfl
@[simp] theorem State.setEngine_nsq (g : Option Engine) : (s.setEngine g).nsq = s.nsq := rfl
@[simp] theorem State.setEngine_errcode (g : Option Engine) : (s.setEngine g).errcode = s.errcode := rfl
@[simp] theorem State.setEngine_a0 (g : Option Engine) : (s.setEngine g).a0 = s.a0 := rfl
@[simp] theorem State.setEngine_a1 (g : Option Engine) : (s.setEngine g).a1 = s.a1 := rfl
@[simp] theorem State.setEngine_a2 (g : Option Engine) : (s.setEngine g).a2 = s.a2 := rfl
@[simp] theorem State.setEngine_a3 (g : Option Engine) : (s.setEngine g).a3 = s.a3 := rfl
@[simp] theorem State.setEngine_result (g : Option Engine) : (s.setEngine g).result = s.result := rfl
@[simp] theorem State.setEngine_errx (g : Option Engine) : (s.setEngine g).errx = s.errx := rfl
@[simp] theorem State.setEngine_erry (g : Option Engine) : (s.setEngine g).erry = s.erry := rfl
@[simp] theorem State.setEngine_width (g : Option Engine) : (s.setEngine g).width = s.width := rfl
@[simp] theorem State.setEngine_height (g : Option Engine) : (s.setEngine g).height = s.height := rfl
@[simp] theorem State.setEngine_bchk (g : Option Engine) : (s.setEngine g).bchk = s.bchk := rfl
@[simp] theorem State.setEngine_tab (g : Option Engine) : (s.setEngine g).tab = s.tab := rfl
@[simp] theorem State.setEngine_engine (g : Option Engine) : (s.setEngine g).engine = g := rfl
@[simp] theorem State.setEngine_mem (g : Option Engine) : (s.setEngine g).mem = s.mem := rfl
@[simp] theorem State.setEngine_script (g : Option Engine) : (s.setEngine g).script = s.script := rfl
@[simp] theorem State.setEngine_seen (g : Option Engine) : (s.setEngine g).seen = s.seen := rfl

/-! ### setResult -/

@[simp] theorem State.setResult_cmd (v : Word) : (s.setResult v).cmd = s.cmd := rfl
@[simp] theorem State.setResult_err (v : Word) : (s.setResult v).err = s.err := rfl
@[simp] theorem State.setResult_ovr (v : Word) : (s.setResult v).ovr = s.ovr := rfl
@[simp] theorem State.setResult_tv (v : Word) : (s.setResult v).tv = s.tv := rfl
@[simp] theorem State.setResult_nsq (v : Word) : (s.setResult v).nsq = s.nsq := rfl
@[simp] theorem State.setResult_errcode (v : Word) : (s.setResult v).errcode = s.errcode := rfl
@[simp] theorem State.setResult_a0 (v : Word) : (s.setResult v).a0 = s.a0 := rfl
@[simp] theorem State.setResult_a1 (v : Word) : (s.setResult v).a1 = s.a1 := rfl
@[simp] theorem State.setResult_a2 (v : Word) : (s.setResult v).a2 = s.a2 := rfl
@[simp] theorem State.setResult_a3 (v : Word) : (s.setResult v).a3 = s.a3 := rfl
@[simp] theorem State.setResult_result (v : Word) : (s.setResult v).result = v := rfl
@[simp] theorem State.setResult_errx (v : Word) : (s.setResult v).errx = s.errx := rfl
@[simp] theorem State.setResult_erry (v : Word) : (s.setResult v).erry = s.erry := rfl
@[simp] theorem State.setResult_width (v : Word) : (s.setResult v).width = s.width := rfl
@[simp] theorem State.setResult_height (v : Word) : (s.setResult v).height = s.height := rfl
@[simp] theorem State.setResult_bchk (v : Word) : (s.setResult v).bchk = s.bchk := rfl
@[simp] theorem State.setResult_tab (v : Word) : (s.setResult v).tab = s.tab := rfl
@[simp] theorem State.setResult_engine (v : Word) : (s.setResult v).engine = s.engine := rfl
@[simp] theorem State.setResult_mem (v : Word) : (s.setResult v).mem = s.mem := rfl
@[simp] theorem State.setResult_script (v : Word) : (s.setResult v).script = s.script := rfl
@[simp] theorem State.setResult_seen (v : Word) : (s.setResult v).seen = s.seen := rfl

/-! ### setTable -/

@[simp] theorem State.setTable_cmd (t : List Word) : (s.setTable t).cmd = s.cmd := rfl
@[simp] theorem State.setTable_err (t : List Word) : (s.setTable t).err = s.err := rfl
@[simp] theorem State.setTable_ovr (t : List Word) : (s.setTable t).ovr = s.ovr := rfl
@[simp] theorem State.setTable_tv (t : List Word) : (s.setTable t).tv = true := rfl
@[simp] theorem State.setTable_nsq (t : List Word) : (s.setTable t).nsq = s.nsq := rfl
@[simp] theorem State.setTable_errcode (t : List Word) : (s.setTable t).errcode = s.errcode := rfl
@[simp] theorem State.setTable_a0 (t : List Word) : (s.setTable t).a0 = s.a0 := rfl
@[simp] theorem State.setTable_a1 (t : List Word) : (s.setTable t).a1 = s.a1 := rfl
@[simp] theorem State.setTable_a2 (t : List Word) : (s.setTable t).a2 = s.a2 := rfl
@[simp] theorem State.setTable_a3 (t : List Word) : (s.setTable t).a3 = s.a3 := rfl
@[simp] theorem State.setTable_result (t : List Word) : (s.setTable t).result = s.result := rfl
@[simp] theorem State.setTable_errx (t : List Word) : (s.setTable t).errx = s.errx := rfl
@[simp] theorem State.setTable_erry (t : List Word) : (s.setTable t).erry = s.erry := rfl
@[simp] theorem State.setTable_width (t : List Word) : (s.setTable t).width = s.width := rfl
@[simp] theorem State.setTable_height (t : List Word) : (s.setTable t).height = s.height := rfl
@[simp] theorem State.setTable_bchk (t : List Word) : (s.setTable t).bchk = s.bchk := rfl
@[simp] theorem State.setTable_tab (t : List Word) : (s.setTable t).tab = t := rfl
@[simp] theorem State.setTable_engine (t : List Word) : (s.setTable t).engine = s.engine := rfl
@[simp] theorem State.setTable_mem (t : List Word) : (s.setTable t).mem = s.mem := rfl
@[simp] theorem State.setTable_script (t : List Word) : (s.setTable t).script = s.script := rfl
@[simp] theorem State.setTable_seen (t : List Word) : (s.setTable t).seen = s.seen := rfl

/-! ### flagNotSquare -/

@[simp] theorem State.flagNotSquare_cmd (q : Bool) : (s.flagNotSquare q).cmd = s.cmd := rfl
@[simp] theorem State.flagNotSquare_err (q : Bool) : (s.flagNotSquare q).err = s.err := rfl
@[simp] theorem State.flagNotSquare_ovr (q : Bool) : (s.flagNotSquare q).ovr = s.ovr := rfl
@[simp] theorem State.flagNotSquare_tv (q : Bool) : (s.flagNotSquare q).tv = s.tv := rfl
@[simp] theorem State.flagNotSquare_nsq (q : Bool) : (s.flagNotSquare q).nsq = (s.nsq || q) := rfl
@[simp] theorem State.flagNotSquare_errcode (q : Bool) : (s.flagNotSquare q).errcode = s.errcode := rfl
@[simp] theorem State.flagNotSquare_a0 (q : Bool) : (s.flagNotSquare q).a0 = s.a0 := rfl
@[simp] theorem State.flagNotSquare_a1 (q : Bool) : (s.flagNotSquare q).a1 = s.a1 := rfl
@[simp] theorem State.flagNotSquare_a2 (q : Bool) : (s.flagNotSquare q).a2 = s.a2 := rfl
@[simp] theorem State.flagNotSquare_a3 (q : Bool) : (s.flagNotSquare q).a3 = s.a3 := rfl
@[simp] theorem State.flagNotSquare_result (q : Bool) : (s.flagNotSquare q).result = s.result := rfl
@[simp] theorem State.flagNotSquare_errx (q : Bool) : (s.flagNotSquare q).errx = s.errx := rfl
@[simp] theorem State.flagNotSquare_erry (q : Bool) : (s.flagNotSquare q).erry = s.erry := rfl
@[simp] theorem State.flagNotSquare_width (q : Bool) : (s.flagNotSquare q).width = s.width := rfl
@[simp] theorem State.flagNotSquare_height (q : Bool) : (s.flagNotSquare q).height = s.height := rfl
@[simp] theorem State.flagNotSquare_bchk (q : Bool) : (s.flagNotSquare q).bchk = s.bchk := rfl
@[simp] theorem State.flagNotSquare_tab (q : Bool) : (s.flagNotSquare q).tab = s.tab := rfl
@[simp] theorem State.flagNotSquare_engine (q : Bool) : (s.flagNotSquare q).engine = s.engine := rfl
@[simp] theorem State.flagNotSquare_mem (q : Bool) : (s.flagNotSquare q).mem = s.mem := rfl
@[simp] theorem State.flagNotSquare_script (q : Bool) : (s.flagNotSquare q).script = s.script := rfl
@[simp] theorem State.flagNotSquare_seen (q : Bool) : (s.flagNotSquare q).seen = s.seen := rfl

/-! ### done -/

@[simp] theorem State.done_cmd : (s.done).cmd = s.cmd := rfl
@[simp] theorem State.done_err : (s.done).err = s.err := rfl
@[simp] theorem State.done_ovr : (s.done).ovr = s.ovr := rfl
@[simp] theorem State.done_tv : (s.done).tv = s.tv := rfl
@[simp] theorem State.done_nsq : (s.done).nsq = s.nsq := rfl
@[simp] theorem State.done_errcode : (s.done).errcode = s.errcode := rfl
@[simp] theorem State.done_a0 : (s.done).a0 = s.a0 := rfl
@[simp] theorem State.done_a1 : (s.done).a1 = s.a1 := rfl
@[simp] theorem State.done_a2 : (s.done).a2 = s.a2 := rfl
@[simp] theorem State.done_a3 : (s.done).a3 = s.a3 := rfl
@[simp] theorem State.done_result : (s.done).result = s.result := rfl
@[simp] theorem State.done_errx : (s.done).errx = s.errx := rfl
@[simp] theorem State.done_erry : (s.done).erry = s.erry := rfl
@[simp] theorem State.done_width : (s.done).width = s.width := rfl
@[simp] theorem State.done_height : (s.done).height = s.height := rfl
@[simp] theorem State.done_bchk : (s.done).bchk = s.bchk := rfl
@[simp] theorem State.done_tab : (s.done).tab = s.tab := rfl
@[simp] theorem State.done_engine : (s.done).engine = none := rfl
@[simp] theorem State.done_mem : (s.done).mem = s.mem := rfl
@[simp] theorem State.done_script : (s.done).script = s.script := rfl
@[simp] theorem State.done_seen : (s.done).seen = s.seen := rfl

/-! ### raise -/

@[simp] theorem State.raise_cmd (k : ErrCode) (x y : Int) : (s.raise k x y).cmd = s.cmd := rfl
@[simp] theorem State.raise_err (k : ErrCode) (x y : Int) : (s.raise k x y).err = true := rfl
@[simp] theorem State.raise_ovr (k : ErrCode) (x y : Int) : (s.raise k x y).ovr = s.ovr := rfl
@[simp] theorem State.raise_tv (k : ErrCode) (x y : Int) : (s.raise k x y).tv = s.tv := rfl
@[simp] theorem State.raise_nsq (k : ErrCode) (x y : Int) : (s.raise k x y).nsq = s.nsq := rfl
@[simp] theorem State.raise_errcode (k : ErrCode) (x y : Int) : (s.raise k x y).errcode = k.code := rfl
@[simp] theorem State.raise_a0 (k : ErrCode) (x y : Int) : (s.raise k x y).a0 = s.a0 := rfl
@[simp] theorem State.raise_a1 (k : ErrCode) (x y : Int) : (s.raise k x y).a1 = s.a1 := rfl
@[simp] theorem State.raise_a2 (k : ErrCode) (x y : Int) : (s.raise k x y).a2 = s.a2 := rfl
@[simp] theorem State.raise_a3 (k : ErrCode) (x y : Int) : (s.raise k x y).a3 = s.a3 := rfl
@[simp] theorem State.raise_result (k : ErrCode) (x y : Int) : (s.raise k x y).result = s.result := rfl
@[simp] theorem State.raise_errx (k : ErrCode) (x y : Int) : (s.raise k x y).errx = trunc32 x := rfl
@[simp] theorem State.raise_erry (k : ErrCode) (x y : Int) : (s.raise k x y).erry = trunc32 y := rfl
@[simp] theorem State.raise_width (k : ErrCode) (x y : Int) : (s.raise k x y).width = s.width := rfl
@[simp] theorem State.raise_height (k : ErrCode) (x y : Int) : (s.raise k x y).height = s.height := rfl
@[simp] theorem State.raise_bchk (k : ErrCode) (x y : Int) : (s.raise k x y).bchk = s.bchk := rfl
@[simp] theorem State.raise_tab (k : ErrCode) (x y : Int) : (s.raise k x y).tab = s.tab := rfl
@[simp] theorem State.raise_engine (k : ErrCode) (x y : Int) : (s.raise k x y).engine = none := rfl
@[simp] theorem State.raise_mem (k : ErrCode) (x y : Int) : (s.raise k x y).mem = s.mem := rfl
@[simp] theorem State.raise_script (k : ErrCode) (x y : Int) : (s.raise k x y).script = s.script := rfl
@[simp] theorem State.raise_seen (k : ErrCode) (x y : Int) : (s.raise k x y).seen = s.seen := rfl

/-! ### advance -/

@[simp] theorem State.advance_cmd (e : Engine) : (s.advance e).cmd = s.cmd := rfl
@[simp] theorem State.advance_err (e : Engine) : (s.advance e).err = s.err := rfl
@[simp] theorem State.advance_ovr (e : Engine) : (s.advance e).ovr = s.ovr := rfl
@[simp] theorem State.advance_tv (e : Engine) : (s.advance e).tv = s.tv := rfl
@[simp] theorem State.advance_nsq (e : Engine) : (s.advance e).nsq = s.nsq := rfl
@[simp] theorem State.advance_errcode (e : Engine) : (s.advance e).errcode = s.errcode := rfl
@[simp] theorem State.advance_a0 (e : Engine) : (s.advance e).a0 = s.a0 := rfl
@[simp] theorem State.advance_a1 (e : Engine) : (s.advance e).a1 = s.a1 := rfl
@[simp] theorem State.advance_a2 (e : Engine) : (s.advance e).a2 = s.a2 := rfl
@[simp] theorem State.advance_a3 (e : Engine) : (s.advance e).a3 = s.a3 := rfl
@[simp] theorem State.advance_result (e : Engine) : (s.advance e).result = s.result := rfl
@[simp] theorem State.advance_errx (e : Engine) : (s.advance e).errx = s.errx := rfl
@[simp] theorem State.advance_erry (e : Engine) : (s.advance e).erry = s.erry := rfl
@[simp] theorem State.advance_width (e : Engine) : (s.advance e).width = s.width := rfl
@[simp] theorem State.advance_height (e : Engine) : (s.advance e).height = s.height := rfl
@[simp] theorem State.advance_bchk (e : Engine) : (s.advance e).bchk = s.bchk := rfl
@[simp] theorem State.advance_tab (e : Engine) : (s.advance e).tab = s.tab := rfl
@[simp] theorem State.advance_engine (e : Engine) : (s.advance e).engine = some { e with pos := e.pos.map (· + 1) } := rfl
@[simp] theorem State.advance_mem (e : Engine) : (s.advance e).mem = s.mem := rfl
@[simp] theorem State.advance_script (e : Engine) : (s.advance e).script = s.script := rfl
@[simp] theorem State.advance_seen (e : Engine) : (s.advance e).seen = s.seen := rfl

/-! ### start -/

@[simp] theorem State.start_cmd (v : Word) : (s.start v).cmd = v := rfl
@[simp] theorem State.start_err (v : Word) : (s.start v).err = s.err := rfl
@[simp] theorem State.start_ovr (v : Word) : (s.start v).ovr = s.ovr := rfl
@[simp] theorem State.start_tv (v : Word) : (s.start v).tv = s.tv := rfl
@[simp] theorem State.start_nsq (v : Word) : (s.start v).nsq = s.nsq := rfl
@[simp] theorem State.start_errcode (v : Word) : (s.start v).errcode = s.errcode := rfl
@[simp] theorem State.start_a0 (v : Word) : (s.start v).a0 = s.a0 := rfl
@[simp] theorem State.start_a1 (v : Word) : (s.start v).a1 = s.a1 := rfl
@[simp] theorem State.start_a2 (v : Word) : (s.start v).a2 = s.a2 := rfl
@[simp] theorem State.start_a3 (v : Word) : (s.start v).a3 = s.a3 := rfl
@[simp] theorem State.start_result (v : Word) : (s.start v).result = s.result := rfl
@[simp] theorem State.start_errx (v : Word) : (s.start v).errx = s.errx := rfl
@[simp] theorem State.start_erry (v : Word) : (s.start v).erry = s.erry := rfl
@[simp] theorem State.start_width (v : Word) : (s.start v).width = s.width := rfl
@[simp] theorem State.start_height (v : Word) : (s.start v).height = s.height := rfl
@[simp] theorem State.start_bchk (v : Word) : (s.start v).bchk = s.bchk := rfl
@[simp] theorem State.start_tab (v : Word) : (s.start v).tab = s.tab := rfl
@[simp] theorem State.start_engine (v : Word) : (s.start v).engine = some s.latch := rfl
@[simp] theorem State.start_mem (v : Word) : (s.start v).mem = s.mem := rfl
@[simp] theorem State.start_script (v : Word) : (s.start v).script = s.script := rfl
@[simp] theorem State.start_seen (v : Word) : (s.start v).seen = s.seen := rfl

/-! ### dropped -/

@[simp] theorem State.dropped_cmd : (s.dropped).cmd = s.cmd := rfl
@[simp] theorem State.dropped_err : (s.dropped).err = s.err := rfl
@[simp] theorem State.dropped_ovr : (s.dropped).ovr = true := rfl
@[simp] theorem State.dropped_tv : (s.dropped).tv = s.tv := rfl
@[simp] theorem State.dropped_nsq : (s.dropped).nsq = s.nsq := rfl
@[simp] theorem State.dropped_errcode : (s.dropped).errcode = s.errcode := rfl
@[simp] theorem State.dropped_a0 : (s.dropped).a0 = s.a0 := rfl
@[simp] theorem State.dropped_a1 : (s.dropped).a1 = s.a1 := rfl
@[simp] theorem State.dropped_a2 : (s.dropped).a2 = s.a2 := rfl
@[simp] theorem State.dropped_a3 : (s.dropped).a3 = s.a3 := rfl
@[simp] theorem State.dropped_result : (s.dropped).result = s.result := rfl
@[simp] theorem State.dropped_errx : (s.dropped).errx = s.errx := rfl
@[simp] theorem State.dropped_erry : (s.dropped).erry = s.erry := rfl
@[simp] theorem State.dropped_width : (s.dropped).width = s.width := rfl
@[simp] theorem State.dropped_height : (s.dropped).height = s.height := rfl
@[simp] theorem State.dropped_bchk : (s.dropped).bchk = s.bchk := rfl
@[simp] theorem State.dropped_tab : (s.dropped).tab = s.tab := rfl
@[simp] theorem State.dropped_engine : (s.dropped).engine = s.engine := rfl
@[simp] theorem State.dropped_mem : (s.dropped).mem = s.mem := rfl
@[simp] theorem State.dropped_script : (s.dropped).script = s.script := rfl
@[simp] theorem State.dropped_seen : (s.dropped).seen = s.seen := rfl

/-! ### see -/

@[simp] theorem State.see_cmd (v : Word) : (s.see v).cmd = s.cmd := rfl
@[simp] theorem State.see_err (v : Word) : (s.see v).err = s.err := rfl
@[simp] theorem State.see_ovr (v : Word) : (s.see v).ovr = s.ovr := rfl
@[simp] theorem State.see_tv (v : Word) : (s.see v).tv = s.tv := rfl
@[simp] theorem State.see_nsq (v : Word) : (s.see v).nsq = s.nsq := rfl
@[simp] theorem State.see_errcode (v : Word) : (s.see v).errcode = s.errcode := rfl
@[simp] theorem State.see_a0 (v : Word) : (s.see v).a0 = s.a0 := rfl
@[simp] theorem State.see_a1 (v : Word) : (s.see v).a1 = s.a1 := rfl
@[simp] theorem State.see_a2 (v : Word) : (s.see v).a2 = s.a2 := rfl
@[simp] theorem State.see_a3 (v : Word) : (s.see v).a3 = s.a3 := rfl
@[simp] theorem State.see_result (v : Word) : (s.see v).result = s.result := rfl
@[simp] theorem State.see_errx (v : Word) : (s.see v).errx = s.errx := rfl
@[simp] theorem State.see_erry (v : Word) : (s.see v).erry = s.erry := rfl
@[simp] theorem State.see_width (v : Word) : (s.see v).width = s.width := rfl
@[simp] theorem State.see_height (v : Word) : (s.see v).height = s.height := rfl
@[simp] theorem State.see_bchk (v : Word) : (s.see v).bchk = s.bchk := rfl
@[simp] theorem State.see_tab (v : Word) : (s.see v).tab = s.tab := rfl
@[simp] theorem State.see_engine (v : Word) : (s.see v).engine = s.engine := rfl
@[simp] theorem State.see_mem (v : Word) : (s.see v).mem = s.mem := rfl
@[simp] theorem State.see_script (v : Word) : (s.see v).script = s.script := rfl
@[simp] theorem State.see_seen (v : Word) : (s.see v).seen = v :: s.seen := rfl

/-! ### access: a byte written, or RESULT read -/

variable (e : Engine) (a : Access)

@[simp] theorem State.access_cmd : (s.access e a).cmd = s.cmd := by cases a <;> rfl
@[simp] theorem State.access_err : (s.access e a).err = s.err := by cases a <;> rfl
@[simp] theorem State.access_ovr : (s.access e a).ovr = s.ovr := by cases a <;> rfl
@[simp] theorem State.access_tv : (s.access e a).tv = s.tv := by cases a <;> rfl
@[simp] theorem State.access_nsq : (s.access e a).nsq = s.nsq := by cases a <;> rfl
@[simp] theorem State.access_errcode : (s.access e a).errcode = s.errcode := by cases a <;> rfl
@[simp] theorem State.access_a0 : (s.access e a).a0 = s.a0 := by cases a <;> rfl
@[simp] theorem State.access_a1 : (s.access e a).a1 = s.a1 := by cases a <;> rfl
@[simp] theorem State.access_a2 : (s.access e a).a2 = s.a2 := by cases a <;> rfl
@[simp] theorem State.access_a3 : (s.access e a).a3 = s.a3 := by cases a <;> rfl
@[simp] theorem State.access_errx : (s.access e a).errx = s.errx := by cases a <;> rfl
@[simp] theorem State.access_erry : (s.access e a).erry = s.erry := by cases a <;> rfl
@[simp] theorem State.access_width : (s.access e a).width = s.width := by cases a <;> rfl
@[simp] theorem State.access_height : (s.access e a).height = s.height := by cases a <;> rfl
@[simp] theorem State.access_bchk : (s.access e a).bchk = s.bchk := by cases a <;> rfl
@[simp] theorem State.access_tab : (s.access e a).tab = s.tab := by cases a <;> rfl
@[simp] theorem State.access_engine : (s.access e a).engine = s.engine := by cases a <;> rfl
@[simp] theorem State.access_script : (s.access e a).script = s.script := by cases a <;> rfl
@[simp] theorem State.access_seen : (s.access e a).seen = s.seen := by cases a <;> rfl
@[simp] theorem State.access_plot_mem (x y : Int) (c : Byte) :
    (s.access e (.plot x y c)).mem = s.mem.write (e.offset x y) c := rfl
@[simp] theorem State.access_plot_result (x y : Int) (c : Byte) : (s.access e (.plot x y c)).result = s.result := rfl
@[simp] theorem State.access_fetch_mem (x y : Int) : (s.access e (.fetch x y)).mem = s.mem := rfl
@[simp] theorem State.access_fetch_result (x y : Int) :
    (s.access e (.fetch x y)).result = (s.readByte (e.offset x y)).setWidth 32 := rfl

/-! ### writeStatus, resetEvent: what they keep -/

@[simp] theorem State.writeStatus_cmd (v : Word) : (s.writeStatus v).cmd = s.cmd := rfl
@[simp] theorem State.writeStatus_tv (v : Word) : (s.writeStatus v).tv = s.tv := rfl
@[simp] theorem State.writeStatus_a0 (v : Word) : (s.writeStatus v).a0 = s.a0 := rfl
@[simp] theorem State.writeStatus_a1 (v : Word) : (s.writeStatus v).a1 = s.a1 := rfl
@[simp] theorem State.writeStatus_a2 (v : Word) : (s.writeStatus v).a2 = s.a2 := rfl
@[simp] theorem State.writeStatus_a3 (v : Word) : (s.writeStatus v).a3 = s.a3 := rfl
@[simp] theorem State.writeStatus_result (v : Word) : (s.writeStatus v).result = s.result := rfl
@[simp] theorem State.writeStatus_errx (v : Word) : (s.writeStatus v).errx = s.errx := rfl
@[simp] theorem State.writeStatus_erry (v : Word) : (s.writeStatus v).erry = s.erry := rfl
@[simp] theorem State.writeStatus_width (v : Word) : (s.writeStatus v).width = s.width := rfl
@[simp] theorem State.writeStatus_height (v : Word) : (s.writeStatus v).height = s.height := rfl
@[simp] theorem State.writeStatus_bchk (v : Word) : (s.writeStatus v).bchk = s.bchk := rfl
@[simp] theorem State.writeStatus_tab (v : Word) : (s.writeStatus v).tab = s.tab := rfl
@[simp] theorem State.writeStatus_engine (v : Word) : (s.writeStatus v).engine = s.engine := rfl
@[simp] theorem State.writeStatus_mem (v : Word) : (s.writeStatus v).mem = s.mem := rfl
@[simp] theorem State.writeStatus_script (v : Word) : (s.writeStatus v).script = s.script := rfl
@[simp] theorem State.writeStatus_seen (v : Word) : (s.writeStatus v).seen = s.seen := rfl
@[simp] theorem State.resetEvent_bchk : s.resetEvent.bchk = s.bchk := rfl
@[simp] theorem State.resetEvent_mem : s.resetEvent.mem = s.mem := rfl
@[simp] theorem State.resetEvent_script : s.resetEvent.script = s.script := rfl
@[simp] theorem State.resetEvent_seen : s.resetEvent.seen = s.seen := rfl
@[simp] theorem State.resetEvent_engine : s.resetEvent.engine = none := rfl

/-! ### the latched working state -/

@[simp] theorem State.latch_pos : s.latch.pos = none := rfl

end Sys2Proof.Machine
end

