-- ==== Sys2Proof/Laws/HostPort.lean ====
section
/-! SUPPORT. Everything a host access can do, said once (spec/10_state.md R34 to R36). -/

namespace Sys2Proof.Machine

/-- A register is found at its own offset (R32). -/
@[simp] theorem Reg.ofOffset_offset (r : Reg) : Reg.ofOffset r.offset = some r := by cases r <;> rfl

/-- An offset that addresses a register is that register's (R32). -/
theorem Reg.offset_of_ofOffset (off : Nat) (r : Reg) (h : Reg.ofOffset off = some r) : off = r.offset := by
  unfold Reg.ofOffset at h
  split at h <;> cases h <;> rfl

@[simp] theorem State.busy_eq_false (s : State) : s.busy = false ↔ s.engine = none := by simp [State.busy]

@[simp] theorem State.busy_eq_true (s : State) : s.busy = true ↔ ∃ e, s.engine = some e := by
  simp [State.busy, Option.isSome_iff_exists]

/-- What a write of `CMD` can do (R36). -/
theorem writeCmd_cases (s : State) (v : Word) :
    ((s.busy = true ∨ s.err = true) ∧ s.writeCmd v = s.dropped) ∨
    (s.engine = none ∧ s.err = false ∧ s.writeCmd v = s.start v) := by
  unfold State.writeCmd
  cases hb : s.busy <;> cases he : s.err <;> simp_all

/-- What a host write can do: nothing, a drop, the flags cleared, a command started, or, while idle, an operand or the
geometry written (R35). -/
theorem hostWrite_cases (s : State) (off : Nat) (v : Word) :
    s.hostWrite off v = s ∨ ((s.busy = true ∨ s.err = true) ∧ s.hostWrite off v = s.dropped) ∨
    s.hostWrite off v = s.writeStatus v ∨ (s.engine = none ∧ s.err = false ∧ s.hostWrite off v = s.start v) ∨
    (s.engine = none ∧ ∃ b0 b1 b2 b3 w h,
      s.hostWrite off v = { s with a0 := b0, a1 := b1, a2 := b2, a3 := b3, width := w, height := h }) := by
  unfold State.hostWrite
  split
  · exact .inl rfl
  · next r hr =>
    cases r with
    | cmd =>
      rcases writeCmd_cases s v with ⟨h, h'⟩ | ⟨h, h', h''⟩
      · exact .inr (.inl ⟨h, h'⟩)
      · exact .inr (.inr (.inr (.inl ⟨h, h', h''⟩)))
    | status => exact .inr (.inr (.inl rfl))
    | result => exact .inl rfl
    | errx => exact .inl rfl
    | erry => exact .inl rfl
    | id => exact .inl rfl
    | _ =>
      cases hb : s.busy
      · refine .inr (.inr (.inr (.inr ⟨s.busy_eq_false.1 hb, ?_⟩)))
        simp only [State.writeReg, hb, Bool.false_eq_true, if_false]
        exact ⟨_, _, _, _, _, _, rfl⟩
      · exact .inr (.inl ⟨.inl rfl, by simp [State.writeReg, hb]⟩)

/-- A host write touches neither the framebuffer, nor the table, nor what is still to come (R35). -/
theorem hostWrite_frame (s : State) (off : Nat) (v : Word) :
    (s.hostWrite off v).mem = s.mem ∧ (s.hostWrite off v).tab = s.tab ∧ (s.hostWrite off v).tv = s.tv ∧
      (s.hostWrite off v).bchk = s.bchk ∧ (s.hostWrite off v).result = s.result ∧
      (s.hostWrite off v).script = s.script ∧ (s.hostWrite off v).seen = s.seen := by
  rcases hostWrite_cases s off v with h | ⟨-, h⟩ | h | ⟨-, -, h⟩ | ⟨-, b0, b1, b2, b3, w, g, h⟩ <;> rw [h] <;>
    exact ⟨rfl, rfl, rfl, rfl, rfl, rfl, rfl⟩

/-- Bit 1 of a written word clears ERR, and ERRCODE with it (R26). -/
theorem acknowledge_eq (s : State) : s.acknowledge = { s with err := false, errcode := 0 } := by
  cases s
  simp [State.acknowledge, State.writeStatus]

end Sys2Proof.Machine
end

