-- ==== Sys2Proof/Laws/Memory.lean ====
section
/-! SUPPORT. The laws of the framebuffer list: what a write changes, what it leaves, and that it keeps the one form. -/

namespace Sys2Proof.Machine

@[simp] theorem Memory.lookup_nil (o : Nat) : Memory.lookup [] o = none := rfl

theorem Memory.lookup_cons (a : Nat) (b : Byte) (m : Memory) (o : Nat) :
    Memory.lookup ((a, b) :: m) o = if a = o then some b else m.lookup o := rfl

/-- An offset below every listed one is not listed. -/
theorem Memory.lookup_below (m : Memory) (o : Nat) (h : ∀ a ∈ m, o < a.1) : m.lookup o = none := by
  induction m with
  | nil => rfl
  | cons p m ih =>
    obtain ⟨a, b⟩ := p
    have ha : o < a := h (a, b) (by simp)
    rw [Memory.lookup_cons, if_neg (by omega)]
    exact ih fun x hx => h x (by simp [hx])

/-- Reading back what was written (spec/20_memory.md R64). -/
@[simp] theorem Memory.lookup_write_same (m : Memory) (o : Nat) (v : Byte) : (m.write o v).lookup o = some v := by
  induction m with
  | nil => simp [Memory.write, Memory.lookup]
  | cons p m ih =>
    obtain ⟨a, b⟩ := p
    unfold Memory.write
    split
    · simp [Memory.lookup]
    · split
      · simp [Memory.lookup]
      · rename_i h; simp [Memory.lookup, h, ih]

/-- A write leaves every other byte alone (R64). -/
theorem Memory.lookup_write_other (m : Memory) (o o' : Nat) (v : Byte) (h : o' ≠ o) :
    (m.write o v).lookup o' = m.lookup o' := by
  have h' : o ≠ o' := fun x => h x.symm
  induction m with
  | nil => simp [Memory.write, Memory.lookup, h']
  | cons p m ih =>
    obtain ⟨a, b⟩ := p
    unfold Memory.write
    split
    · simp [Memory.lookup, h']
    · split
      · rename_i hao; subst hao; simp [Memory.lookup, h']
      · simp [Memory.lookup, ih]

/-- A write, read at any offset. -/
theorem Memory.lookup_write (m : Memory) (o o' : Nat) (v : Byte) :
    (m.write o v).lookup o' = if o' = o then some v else m.lookup o' := by
  split
  · next h => subst h; simp
  · next h => exact m.lookup_write_other o o' v h

/-- The offsets listed after a write are the old ones and the written one. -/
theorem Memory.mem_write (m : Memory) (o : Nat) (v : Byte) (x : Host.Cell) (h : x ∈ m.write o v) :
    x.1 = o ∨ x ∈ m := by
  induction m with
  | nil => simp [Memory.write] at h; simp [h]
  | cons p m ih =>
    obtain ⟨a, b⟩ := p
    unfold Memory.write at h
    split at h
    · simp only [List.mem_cons] at h ⊢
      rcases h with rfl | h
      · exact .inl rfl
      · exact .inr h
    · split at h
      · simp only [List.mem_cons] at h ⊢
        rcases h with rfl | h
        · exact .inl rfl
        · exact .inr (.inr h)
      · simp only [List.mem_cons] at h ⊢
        rcases h with rfl | h
        · exact .inr (.inl rfl)
        · rcases ih h with h | h
          · exact .inl h
          · exact .inr (.inr h)

/-- Every write keeps the canonical form. -/
theorem Memory.write_wf (m : Memory) (o : Nat) (v : Byte) (h : m.wf) (ho : o < Config.framebufferBytes) :
    (m.write o v).wf := by
  refine ⟨?_, fun a ha => ?_⟩
  · obtain ⟨h, -⟩ := h
    induction m with
    | nil => simp [Memory.write]
    | cons p m ih =>
      obtain ⟨a, b⟩ := p
      rw [List.pairwise_cons] at h
      unfold Memory.write
      split
      · next hlt =>
        rw [List.pairwise_cons, List.pairwise_cons]
        refine ⟨fun x hx => ?_, h⟩
        rcases List.mem_cons.1 hx with rfl | hx
        · exact hlt
        · exact Nat.lt_trans hlt (h.1 x hx)
      · split
        · next heq =>
          subst heq
          exact List.pairwise_cons.2 h
        · next hlt hne =>
          refine List.pairwise_cons.2 ⟨fun x hx => ?_, ih h.2⟩
          rcases Memory.mem_write m o v x hx with hx | hx
          · simp only [hx]; omega
          · exact h.1 x hx
  · rcases Memory.mem_write m o v a ha with h' | h'
    · omega
    · exact h.2 a h'

/-- Reading a byte after a write (spec/41_pixel_surface_signstep.md R143). -/
theorem State.readByte_writeByte (s : State) (o o' : Nat) (v : Byte) :
    (s.writeByte o v).readByte o' = if o' = o then v else s.readByte o' := by
  unfold State.readByte
  rw [State.writeByte_mem, Memory.lookup_write]
  split <;> simp_all

end Sys2Proof.Machine
end

