-- ==== Sys2Proof/Laws/Ops.lean ====
section
/-! SUPPORT. What each shared operation of the engine can do, said once: the start step, the access step, the run of the
accesses, the whole command. -/

namespace Sys2Proof.Machine

/-! ### The start step (spec/10_state.md R37) -/

@[simp] theorem startStep_error (s : State) (e : Engine) (k : ErrCode) : s.startStep e (.error k) = s.raise k 0 0 := rfl

@[simp] theorem startStep_value (s : State) (e : Engine) (v : Word) :
    s.startStep e (.value v) = (s.setResult v).done := rfl

@[simp] theorem startStep_table (s : State) (e : Engine) (t : List Word) :
    s.startStep e (.table t) = (s.setTable t).done := rfl

theorem startStep_draw (s : State) (e : Engine) (q : Bool) (S : List Access) :
    s.startStep e (.draw q S) =
      (s.flagNotSquare q).setEngine (if S = [] then none else some { e with pos := some 0 }) := by
  cases S <;> rfl

/-! ### The access step (R37, R142) -/

/-- Everything an access step can answer. -/
theorem accessStep_cases (s : State) (e : Engine) (a : Access) (last : Bool) :
    (e.inBounds a.x a.y = true ∧
      s.accessStep e a last = .next (if last then (s.access e a).done else (s.access e a).advance e)) ∨
    (e.inBounds a.x a.y = false ∧ s.bchk = true ∧ s.accessStep e a last = .next (s.raise .oob a.x a.y)) ∨
    (e.inBounds a.x a.y = false ∧ s.bchk = false ∧ s.accessStep e a last = .fault (.outOfBounds a.x a.y)) := by
  unfold State.accessStep
  cases h : e.inBounds a.x a.y <;> cases hb : s.bchk <;> simp

@[simp] theorem Engine.inBounds_pos (e : Engine) (q : Option Nat) (x y : Int) :
    ({ e with pos := q } : Engine).inBounds x y = e.inBounds x y := rfl

@[simp] theorem State.access_pos (s : State) (e : Engine) (q : Option Nat) (a : Access) :
    s.access { e with pos := q } a = s.access e a := by cases a <;> rfl

/-- An access neither reads nor writes the working state. -/
theorem State.access_setEngine (s : State) (e : Engine) (g : Option Engine) (a : Access) :
    (s.setEngine g).access e a = (s.access e a).setEngine g := by cases a <;> rfl

/-- An access neither reads nor writes NSQ. -/
theorem State.access_flagNotSquare (s : State) (e : Engine) (q : Bool) (a : Access) :
    (s.flagNotSquare q).access e a = (s.access e a).flagNotSquare q := by cases a <;> rfl

@[simp] theorem State.setEngine_setEngine (s : State) (g g' : Option Engine) :
    (s.setEngine g).setEngine g' = s.setEngine g' := rfl

/-- A state's own working state put back. -/
theorem State.setEngine_self (s : State) (g : Option Engine) (h : s.engine = g) : s.setEngine g = s := by
  cases s; subst h; rfl

/-! ### Lists of accesses -/

@[simp] theorem State.accessed_nil (s : State) (e : Engine) : s.accessed e [] = s := rfl

@[simp] theorem State.accessed_cons (s : State) (e : Engine) (a : Access) (S : List Access) :
    s.accessed e (a :: S) = (s.access e a).accessed e S := rfl

theorem State.accessed_append (s : State) (e : Engine) (S T : List Access) :
    s.accessed e (S ++ T) = (s.accessed e S).accessed e T := by simp [State.accessed]

theorem State.accessed_setEngine (s : State) (e : Engine) (g : Option Engine) (S : List Access) :
    (s.setEngine g).accessed e S = (s.accessed e S).setEngine g := by
  induction S generalizing s with
  | nil => rfl
  | cons a S ih => rw [State.accessed_cons, State.access_setEngine, ih, State.accessed_cons]

theorem State.accessed_flagNotSquare (s : State) (e : Engine) (q : Bool) (S : List Access) :
    (s.flagNotSquare q).accessed e S = (s.accessed e S).flagNotSquare q := by
  induction S generalizing s with
  | nil => rfl
  | cons a S ih => rw [State.accessed_cons, State.access_flagNotSquare, ih, State.accessed_cons]

/-- Accesses change the framebuffer and RESULT, nothing else. -/
theorem State.accessed_frame (s : State) (e : Engine) (S : List Access) :
    s.accessed e S = { s with mem := (s.accessed e S).mem, result := (s.accessed e S).result } := by
  induction S generalizing s with
  | nil => rfl
  | cons a S ih =>
    rw [State.accessed_cons, ih (s.access e a)]
    cases a <;> rfl

/-- Writes change the framebuffer, nothing else. -/
theorem State.accessed_plots_result (s : State) (e : Engine) (S : List Access)
    (h : ∀ a ∈ S, ∃ x y c, a = .plot x y c) : (s.accessed e S).result = s.result := by
  induction S generalizing s with
  | nil => rfl
  | cons a S ih =>
    obtain ⟨x, y, c, rfl⟩ := h a (by simp)
    rw [State.accessed_cons, ih _ fun b hb => h b (by simp [hb])]
    rfl

/-! ### The run of the accesses (R11, R68) -/

@[simp] theorem runAccesses_nil (s : State) : s.runAccesses [] = .next s := rfl

/-- A stopped or finished command makes no further access (R38, R246). -/
@[simp] theorem runAccesses_idle (s : State) (S : List Access) (h : s.engine = none) : s.runAccesses S = .next s := by
  cases S <;> simp [State.runAccesses, h]

/-- In-bounds accesses that are not the last are performed, and the position advances by their number. -/
theorem runAccesses_append (S rest : List Access) (s : State) (e : Engine) (p : Nat) (hr : rest ≠ [])
    (hs : s.engine = some { e with pos := some p }) (hS : ∀ a ∈ S, e.inBounds a.x a.y = true) :
    s.runAccesses (S ++ rest) =
      ((s.accessed e S).setEngine (some { e with pos := some (p + S.length) })).runAccesses rest := by
  induction S generalizing s p with
  | nil => exact congrArg (fun t : State => t.runAccesses rest) (State.setEngine_self s _ hs).symm
  | cons a S ih =>
    have hne : (S ++ rest).isEmpty = false := by cases S <;> cases rest <;> simp_all
    have ha := hS a (by simp)
    rw [List.cons_append, State.runAccesses, hs]
    simp only [State.accessStep, Engine.inBounds_pos, ha, hne, if_true, Bool.false_eq_true, if_false]
    rw [ih _ (p + 1) rfl fun b hb => hS b (by simp [hb]), State.advance, State.accessed_setEngine,
      State.setEngine_setEngine, State.access_pos, State.accessed_cons, List.length_cons, Nat.add_right_comm p 1]
    rfl

/-- A command whose points are all in bounds makes all its accesses and is done (R38). -/
theorem runAccesses_inBounds (S : List Access) (s : State) (e : Engine) (p : Nat) (hne : S ≠ [])
    (hs : s.engine = some { e with pos := some p }) (hS : ∀ a ∈ S, e.inBounds a.x a.y = true) :
    s.runAccesses S = .next (s.accessed e S).done := by
  obtain ⟨T, a, rfl⟩ : ∃ T a, S = T ++ [a] := ⟨_, _, (List.dropLast_append_getLast hne).symm⟩
  rw [runAccesses_append T [a] s e p (by simp) hs fun b hb => hS b (by simp [hb])]
  have ha := hS a (by simp)
  simp [State.runAccesses, State.accessStep, ha, State.accessed_append, State.done, State.access_setEngine]

/-- A command stops at its first out-of-bounds point: `E_OOB` names it, or the run has no meaning (R142, R246). -/
theorem runAccesses_outOfBounds (S rest : List Access) (a : Access) (s : State) (e : Engine) (p : Nat)
    (hs : s.engine = some { e with pos := some p }) (hS : ∀ b ∈ S, e.inBounds b.x b.y = true)
    (ha : e.inBounds a.x a.y = false) :
    s.runAccesses (S ++ a :: rest) =
      if s.bchk then .next ((s.accessed e S).raise .oob a.x a.y) else .fault (.outOfBounds a.x a.y) := by
  rw [runAccesses_append S (a :: rest) s e p (by simp) hs hS]
  have hb : (s.accessed e S).bchk = s.bchk := by rw [State.accessed_frame]
  cases h : s.bchk <;> simp [State.runAccesses, State.accessStep, ha, hb, h, State.raise, State.setEngine]

/-- An induction over the run of the accesses: what holds before, and is kept by an access, by the advance of the
position, by `done` and by `raise`, holds of the state it answers. -/
theorem runAccesses_keeps (P : State → Prop)
    (haccess : ∀ s e a, s.engine = some e → e.inBounds a.x a.y = true → P s → P (s.access e a))
    (hadvance : ∀ s e, P s → P (s.advance e)) (hdone : ∀ s, P s → P s.done)
    (hraise : ∀ s x y, P s → P (s.raise .oob x y)) :
    ∀ (S : List Access) (s t : State), P s → s.runAccesses S = .next t → P t := by
  intro S
  induction S with
  | nil => intro s t hs h; cases h; exact hs
  | cons a S ih =>
    intro s t hs h
    rw [State.runAccesses] at h
    split at h
    · cases h; exact hs
    · next e he =>
      rcases accessStep_cases s e a S.isEmpty with ⟨hb, h'⟩ | ⟨-, -, h'⟩ | ⟨-, -, h'⟩
      · rw [h'] at h
        refine ih _ t ?_ h
        have := haccess s e a he hb hs
        split
        · exact hdone _ this
        · exact hadvance _ e this
      · rw [h'] at h
        exact ih _ t (hraise s a.x a.y hs) h
      · rw [h'] at h
        cases h

/-! ### The whole command (R14) -/

/-- The engine has no step while BUSY is 0. -/
@[simp] theorem perform_idle (s : State) (plan : State → Engine → Plan) (h : s.engine = none) :
    s.perform plan = .next s := by simp [State.perform, h]

theorem perform_start (s : State) (e : Engine) (plan : State → Engine → Plan) (h : s.engine = some e)
    (hp : e.pos = none) : s.perform plan = (s.startStep e (plan s e)).runAccesses (plan s e).accesses := by
  simp [State.perform, h, hp]

theorem perform_error (s : State) (e : Engine) (plan : State → Engine → Plan) (k : ErrCode) (h : s.engine = some e)
    (hp : e.pos = none) (hk : plan s e = .error k) : s.perform plan = .next (s.raise k 0 0) := by
  rw [perform_start s e plan h hp, hk]; rfl

theorem perform_value (s : State) (e : Engine) (plan : State → Engine → Plan) (v : Word) (h : s.engine = some e)
    (hp : e.pos = none) (hk : plan s e = .value v) : s.perform plan = .next (s.setResult v).done := by
  rw [perform_start s e plan h hp, hk]; rfl

theorem perform_table (s : State) (e : Engine) (plan : State → Engine → Plan) (t : List Word) (h : s.engine = some e)
    (hp : e.pos = none) (hk : plan s e = .table t) : s.perform plan = .next (s.setTable t).done := by
  rw [perform_start s e plan h hp, hk]; rfl

/-- A drawing command with every point in bounds completes. -/
theorem perform_draw (s : State) (e : Engine) (plan : State → Engine → Plan) (q : Bool) (S : List Access)
    (h : s.engine = some e) (hp : e.pos = none) (hk : plan s e = .draw q S)
    (hS : ∀ a ∈ S, e.inBounds a.x a.y = true) :
    s.perform plan = .next ((s.accessed e S).flagNotSquare q).done := by
  rw [perform_start s e plan h hp, hk, startStep_draw]
  by_cases hne : S = []
  · subst hne; rfl
  · rw [if_neg hne, Plan.accesses, runAccesses_inBounds S _ e 0 hne rfl hS, State.accessed_setEngine,
      State.accessed_flagNotSquare]
    rfl

/-- A drawing command stops at its first out-of-bounds point. -/
theorem perform_outOfBounds (s : State) (e : Engine) (plan : State → Engine → Plan) (q : Bool) (S rest : List Access)
    (a : Access) (h : s.engine = some e) (hp : e.pos = none) (hk : plan s e = .draw q (S ++ a :: rest))
    (hS : ∀ b ∈ S, e.inBounds b.x b.y = true) (ha : e.inBounds a.x a.y = false) :
    s.perform plan =
      if s.bchk then .next (((s.accessed e S).flagNotSquare q).raise .oob a.x a.y)
      else .fault (.outOfBounds a.x a.y) := by
  rw [perform_start s e plan h hp, hk, startStep_draw, if_neg (by simp), Plan.accesses,
    runAccesses_outOfBounds S rest a _ e 0 rfl hS ha, State.accessed_setEngine, State.accessed_flagNotSquare]
  rfl

/-- Every meaning is the performing of its own plan. -/
theorem exec_eq_perform (i : Instr) (s : State) : exec i s = s.perform (planOf i) := by cases i <;> rfl

end Sys2Proof.Machine
end

