-- ==== Sys2Proof/Laws/PerInstr.lean ====
section
/-! SUPPORT. Facts about every command, one lemma for each constructor of Instr. -/

namespace Sys2Proof.Laws

/-- The encoding of a command is a word that its row of the opcode map selects (spec/30_encoding.md R92, R96). -/
def EncodingFitsRow.Statement (i : Instr) : Prop :=
  ∃ row ∈ opcodeTable, row.mnemonic = i.mnemonic ∧ row.selects (encode i) = true

/-- A colour or two above an opcode leave the bits that format CC fixes. -/
theorem wordCC_and_mask (op c c2 : Byte) : wordCC op c c2 &&& 0xFF0000FF#32 = wordCC op 0 0 := by
  apply BitVec.eq_of_getLsbD_eq
  intro i hi
  simp only [wordCC, BitVec.getLsbD_and, BitVec.getLsbD_append]
  rcases (by omega : i < 8 ∨ (8 ≤ i ∧ i < 16) ∨ (16 ≤ i ∧ i < 24) ∨ 24 ≤ i) with h | h | h | h
  · have : (0xFF0000FF#32).getLsbD i = true := by interval_cases i <;> rfl
    simp [h, this]
  · have : (0xFF0000FF#32).getLsbD i = false := by obtain ⟨h1, h2⟩ := h; interval_cases i <;> rfl
    have h1 : ¬ i < 8 := by omega
    have h2 : i - 8 < 8 := by omega
    simp [h1, h2, this]
  · have : (0xFF0000FF#32).getLsbD i = false := by obtain ⟨h1, h2⟩ := h; interval_cases i <;> rfl
    have h1 : ¬ i < 8 := by omega
    have h2 : ¬ i - 8 < 8 := by omega
    have h3 : i - 8 - 8 < 8 := by omega
    simp [h1, h2, h3, this]
  · have h1 : ¬ i < 8 := by omega
    have h2 : ¬ i - 8 < 8 := by omega
    have h3 : ¬ i - 8 - 8 < 8 := by omega
    simp [h1, h2, h3]

/-- A colour above an opcode leaves the bits that format C fixes. -/
theorem wordC_and_mask (op c : Byte) : wordC op c &&& 0xFFFF00FF#32 = wordCC op 0 0 := by
  apply BitVec.eq_of_getLsbD_eq
  intro i hi
  simp only [wordC, wordCC, BitVec.getLsbD_and, BitVec.getLsbD_append]
  rcases (by omega : i < 8 ∨ (8 ≤ i ∧ i < 16) ∨ 16 ≤ i) with h | h | h
  · have : (0xFFFF00FF#32).getLsbD i = true := by interval_cases i <;> rfl
    simp [h, this]
  · have : (0xFFFF00FF#32).getLsbD i = false := by obtain ⟨h1, h2⟩ := h; interval_cases i <;> rfl
    have h1 : ¬ i < 8 := by omega
    have h2 : i - 8 < 8 := by omega
    simp [h1, h2, this]
  · have h1 : ¬ i < 8 := by omega
    have h2 : ¬ i - 8 < 8 := by omega
    simp [h1, h2]

/-- Any bits above an opcode leave the opcode. -/
theorem wordX_and_mask (op : Byte) (rest : BitVec 24) : wordX op rest &&& 0x000000FF#32 = wordX op 0 := by
  apply BitVec.eq_of_getLsbD_eq
  intro i hi
  simp only [wordX, BitVec.getLsbD_and, BitVec.getLsbD_append]
  rcases (by omega : i < 8 ∨ 8 ≤ i) with h | h
  · have : (0x000000FF#32).getLsbD i = true := by interval_cases i <;> rfl
    simp [h, this]
  · have : (0x000000FF#32).getLsbD i = false := by interval_cases i <;> rfl
    have h1 : ¬ i < 8 := by omega
    simp [h1, this]

theorem EncodingFitsRow.addr : EncodingFitsRow.Statement .addr :=
  ⟨⟨"ADDR", 0x00000010, 0xFFFFFFFF⟩, by decide, rfl, by decide⟩

theorem EncodingFitsRow.setpix (c : Byte) : EncodingFitsRow.Statement (.setpix c) :=
  ⟨⟨"SETPIX", 0x00000011, 0xFFFF00FF⟩, by decide, rfl, beq_iff_eq.2 (wordC_and_mask 0x11 c)⟩

theorem EncodingFitsRow.getpix : EncodingFitsRow.Statement .getpix :=
  ⟨⟨"GETPIX", 0x00000012, 0xFFFFFFFF⟩, by decide, rfl, by decide⟩

theorem EncodingFitsRow.sgn : EncodingFitsRow.Statement .sgn :=
  ⟨⟨"SGN", 0x00000013, 0xFFFFFFFF⟩, by decide, rfl, by decide⟩

theorem EncodingFitsRow.vline (c : Byte) : EncodingFitsRow.Statement (.vline c) :=
  ⟨⟨"VLINE", 0x00000020, 0xFFFF00FF⟩, by decide, rfl, beq_iff_eq.2 (wordC_and_mask 0x20 c)⟩

theorem EncodingFitsRow.hline (c : Byte) : EncodingFitsRow.Statement (.hline c) :=
  ⟨⟨"HLINE", 0x00000021, 0xFFFF00FF⟩, by decide, rfl, beq_iff_eq.2 (wordC_and_mask 0x21 c)⟩

theorem EncodingFitsRow.line (c : Byte) : EncodingFitsRow.Statement (.line c) :=
  ⟨⟨"LINE", 0x00000022, 0xFFFF00FF⟩, by decide, rfl, beq_iff_eq.2 (wordC_and_mask 0x22 c)⟩

theorem EncodingFitsRow.vlinea (c : Byte) : EncodingFitsRow.Statement (.vlinea c) :=
  ⟨⟨"VLINEA", 0x00000024, 0xFFFF00FF⟩, by decide, rfl, beq_iff_eq.2 (wordC_and_mask 0x24 c)⟩

theorem EncodingFitsRow.hlinea (c : Byte) : EncodingFitsRow.Statement (.hlinea c) :=
  ⟨⟨"HLINEA", 0x00000025, 0xFFFF00FF⟩, by decide, rfl, beq_iff_eq.2 (wordC_and_mask 0x25 c)⟩

theorem EncodingFitsRow.linea (c : Byte) : EncodingFitsRow.Statement (.linea c) :=
  ⟨⟨"LINEA", 0x00000026, 0xFFFF00FF⟩, by decide, rfl, beq_iff_eq.2 (wordC_and_mask 0x26 c)⟩

theorem EncodingFitsRow.rect (c : Byte) : EncodingFitsRow.Statement (.rect c) :=
  ⟨⟨"RECT", 0x00000030, 0xFFFF00FF⟩, by decide, rfl, beq_iff_eq.2 (wordC_and_mask 0x30 c)⟩

theorem EncodingFitsRow.frect (c : Byte) : EncodingFitsRow.Statement (.frect c) :=
  ⟨⟨"FRECT", 0x00000031, 0xFFFF00FF⟩, by decide, rfl, beq_iff_eq.2 (wordC_and_mask 0x31 c)⟩

theorem EncodingFitsRow.orect (c c2 : Byte) : EncodingFitsRow.Statement (.orect c c2) :=
  ⟨⟨"ORECT", 0x00000032, 0xFF0000FF⟩, by decide, rfl, beq_iff_eq.2 (wordCC_and_mask 0x32 c c2)⟩

theorem EncodingFitsRow.recta (c : Byte) : EncodingFitsRow.Statement (.recta c) :=
  ⟨⟨"RECTA", 0x00000034, 0xFFFF00FF⟩, by decide, rfl, beq_iff_eq.2 (wordC_and_mask 0x34 c)⟩

theorem EncodingFitsRow.frecta (c : Byte) : EncodingFitsRow.Statement (.frecta c) :=
  ⟨⟨"FRECTA", 0x00000035, 0xFFFF00FF⟩, by decide, rfl, beq_iff_eq.2 (wordC_and_mask 0x35 c)⟩

theorem EncodingFitsRow.orecta (c c2 : Byte) : EncodingFitsRow.Statement (.orecta c c2) :=
  ⟨⟨"ORECTA", 0x00000036, 0xFF0000FF⟩, by decide, rfl, beq_iff_eq.2 (wordCC_and_mask 0x36 c c2)⟩

theorem EncodingFitsRow.buildtab : EncodingFitsRow.Statement .buildtab :=
  ⟨⟨"BUILDTAB", 0x00000040, 0xFFFFFFFF⟩, by decide, rfl, by decide⟩

theorem EncodingFitsRow.circle (c : Byte) : EncodingFitsRow.Statement (.circle c) :=
  ⟨⟨"CIRCLE", 0x00000041, 0xFFFF00FF⟩, by decide, rfl, beq_iff_eq.2 (wordC_and_mask 0x41 c)⟩

theorem EncodingFitsRow.tabrd : EncodingFitsRow.Statement .tabrd :=
  ⟨⟨"TABRD", 0x00000042, 0xFFFFFFFF⟩, by decide, rfl, by decide⟩

theorem EncodingFitsRow.circlea (c : Byte) : EncodingFitsRow.Statement (.circlea c) :=
  ⟨⟨"CIRCLEA", 0x00000045, 0xFFFF00FF⟩, by decide, rfl, beq_iff_eq.2 (wordC_and_mask 0x45 c)⟩

theorem EncodingFitsRow.fcircle (rest : BitVec 24) : EncodingFitsRow.Statement (.fcircle rest) :=
  ⟨⟨"FCIRCLE", 0x00000048, 0x000000FF⟩, by decide, rfl, beq_iff_eq.2 (wordX_and_mask 0x48 rest)⟩

theorem EncodingFitsRow.ellipse (rest : BitVec 24) : EncodingFitsRow.Statement (.ellipse rest) :=
  ⟨⟨"ELLIPSE", 0x00000049, 0x000000FF⟩, by decide, rfl, beq_iff_eq.2 (wordX_and_mask 0x49 rest)⟩

theorem EncodingFitsRow.fellipse (rest : BitVec 24) : EncodingFitsRow.Statement (.fellipse rest) :=
  ⟨⟨"FELLIPSE", 0x0000004A, 0x000000FF⟩, by decide, rfl, beq_iff_eq.2 (wordX_and_mask 0x4A rest)⟩

theorem EncodingFitsRow.itofx : EncodingFitsRow.Statement .itofx :=
  ⟨⟨"ITOFX", 0x00000050, 0xFFFFFFFF⟩, by decide, rfl, by decide⟩

theorem EncodingFitsRow.fxtoi : EncodingFitsRow.Statement .fxtoi :=
  ⟨⟨"FXTOI", 0x00000051, 0xFFFFFFFF⟩, by decide, rfl, by decide⟩

theorem EncodingFitsRow.fxmul : EncodingFitsRow.Statement .fxmul :=
  ⟨⟨"FXMUL", 0x00000052, 0xFFFFFFFF⟩, by decide, rfl, by decide⟩

theorem EncodingFitsRow.fxdiv : EncodingFitsRow.Statement .fxdiv :=
  ⟨⟨"FXDIV", 0x00000053, 0xFFFFFFFF⟩, by decide, rfl, by decide⟩

end Sys2Proof.Laws
end

