-- ==== Sys2Proof/Laws/Step.lean ====
section
/-! SUPPORT. One lemma for each thing a step can do (spec/00_scope.md R14), and what a single engine step can answer. -/

namespace Sys2Proof.Machine

variable (s : State) (rest : List Action)

/-- The state once the agent whose move is next has been picked. -/
def State.popped : State := { s with script := rest }

theorem step_command (h : s.script = []) : step s = s.runCommand := by simp [step, h]

theorem step_write (off : Nat) (v : Word) (h : s.script = .write off v :: rest) :
    step s = .next ((s.popped rest).hostWrite off v) := by simp [step, h, State.act, State.popped]

theorem step_read (off : Nat) (h : s.script = .read off :: rest) :
    step s = .next ((s.popped rest).see ((s.popped rest).hostRead off)) := by simp [step, h, State.act, State.popped]

theorem step_wait (h : s.script = .wait :: rest) : step s = (s.popped rest).waitIdle := by
  simp [step, h, State.act, State.popped]

theorem step_engine (h : s.script = .engine :: rest) : step s = (s.popped rest).engineStep := by
  simp [step, h, State.act, State.popped]

theorem step_reset (h : s.script = .reset :: rest) : step s = .next (s.popped rest).resetEvent := by
  simp [step, h, State.act, State.popped]

theorem step_otherWrite (off : Nat) (v : Byte) (h : s.script = .otherWrite off v :: rest)
    (ho : off < Config.framebufferBytes) : step s = .next ((s.popped rest).writeByte off v) := by
  simp [step, h, State.act, State.popped, ho]

theorem step_otherRead (off : Nat) (h : s.script = .otherRead off :: rest) (ho : off < Config.framebufferBytes) :
    step s = .next ((s.popped rest).see (((s.popped rest).readByte off).setWidth 32)) := by
  simp [step, h, State.act, State.popped, ho]

theorem step_narrow (off : Nat) (h : s.script = .narrow off :: rest) : step s = .refused (.narrowAccess off) := by
  simp [step, h, State.act]

/-! ### The running command -/

theorem runCommand_idle (h : s.engine = none) : s.runCommand = .next s := by simp [State.runCommand, h]

theorem runCommand_ok (e : Engine) (i : Instr) (h : s.engine = some e) (hi : decode s.cmd = .ok i) :
    s.runCommand = exec i s := by simp [State.runCommand, h, State.fetchWord, hi]

theorem runCommand_illegal (e : Engine) (why : Illegal) (h : s.engine = some e) (hi : decode s.cmd = .illegal why) :
    s.runCommand = .next (s.raise .illegal 0 0) := by simp [State.runCommand, h, State.fetchWord, hi]

theorem engineStep_idle (h : s.engine = none) : s.engineStep = .next s := by simp [State.engineStep, h]

theorem engineStep_ok (e : Engine) (i : Instr) (h : s.engine = some e) (hi : decode s.cmd = .ok i) :
    s.engineStep = s.performOne (planOf i) := by simp [State.engineStep, h, State.fetchWord, hi]

theorem engineStep_illegal (e : Engine) (why : Illegal) (h : s.engine = some e) (hi : decode s.cmd = .illegal why) :
    s.engineStep = .next (s.raise .illegal 0 0) := by simp [State.engineStep, h, State.fetchWord, hi]

/-- What one engine step of a command can answer (spec/10_state.md R37): the start step, one access, or, with no step
enabled, nothing. -/
theorem performOne_cases (e : Engine) (plan : State → Engine → Plan) (h : s.engine = some e) :
    (e.pos = none ∧ s.performOne plan = .next (s.startStep e (plan s e))) ∨
    (∃ p, e.pos = some p ∧ (plan s e).accesses.length ≤ p ∧ s.performOne plan = .next s) ∨
    (∃ p a, e.pos = some p ∧ (plan s e).accesses[p]? = some a ∧
      s.performOne plan = s.accessStep e a ((plan s e).accesses.drop (p + 1)).isEmpty) := by
  unfold State.performOne
  rw [h]
  cases hp : e.pos with
  | none => exact .inl ⟨rfl, by simp only [hp]⟩
  | some p =>
    refine .inr ?_
    rcases Nat.lt_or_ge p (plan s e).accesses.length with hlt | hge
    · refine .inr ⟨p, (plan s e).accesses[p], rfl, List.getElem?_eq_getElem hlt, ?_⟩
      simp only [hp, List.drop_eq_getElem_cons hlt]
    · refine .inl ⟨p, rfl, hge, ?_⟩
      simp only [hp, List.drop_eq_nil_of_le hge]

end Sys2Proof.Machine
end

