-- ==== Sys2Proof/Tests/Slice0.lean ====
section
/-! SUPPORT. Tests on fixed values, their expected results taken from spec/95_test_vectors.md (the V, S and P numbers named)
or from the encoding tables of spec/30_encoding.md, and a witness for the hypotheses of each statement. -/

namespace Sys2Proof.Machine.Tests

/-! ### Helpers -/

/-- Just reset (320 by 200), BOUNDS_CHECK true, the operands written. -/
def idle (x y z u : Int) : State :=
  { State.reset with bchk := true, a0 := trunc32 x, a1 := trunc32 y, a2 := trunc32 z, a3 := trunc32 u }

/-- A command accepted on operands, and not started. -/
def ready (i : Instr) (x y z u : Int) : State := (idle x y z u).start (encode i)

/-- The same with the table built. -/
def built (i : Instr) (x y z u : Int) : State := (ready i x y z u).setTable trigTable

/-- A state with moves waiting. -/
def withMoves (s : State) (moves : List Action) : State := { s with script := moves }

/-- What an outcome holds, where it is a next state. -/
def look {α : Type} (f : State → α) : Host.Outcome State Fault Refusal → Option α
  | .next t => some (f t)
  | .fault _ => none
  | .refused _ => none

/-- The fault of an outcome. -/
def faultOf : Host.Outcome State Fault Refusal → Option Fault
  | .next _ => none
  | .fault r => some r
  | .refused _ => none

/-- The refusal of an outcome. -/
def refusalOf : Host.Outcome State Fault Refusal → Option Refusal
  | .next _ => none
  | .fault _ => none
  | .refused r => some r

/-- The points of an access sequence, in order. -/
def points (S : List Access) : List (Int × Int) := S.map fun a => (a.x, a.y)

/-- RESULT after a command, with the STATUS word. -/
def valueOf (o : Host.Outcome State Fault Refusal) : Option (Word × Word) := look (fun t => (t.result, t.statusWord)) o

/-- The framebuffer after a command, with the STATUS word. -/
def paintOf (o : Host.Outcome State Fault Refusal) : Option (List (Nat × Nat) × Word) :=
  look (fun t => (t.mem.map fun p => (p.1, p.2.toNat), t.statusWord)) o

/-- STATUS, ERRX and ERRY after a command. -/
def errorOf (o : Host.Outcome State Fault Refusal) : Option (Word × Word × Word) :=
  look (fun t => (t.statusWord, t.errx, t.erry)) o

/-- One host move from a state. -/
def move (s : State) (a : Action) : Host.Outcome State Fault Refusal := step { s with script := [a] }


/-! ### Decoding: a word of each command, written from R91, R92 and R96 -/

theorem test_decode_addr : decode 0x00000010 = .ok .addr := by decide

theorem test_decode_setpix : decode 0x00002A11 = .ok (.setpix 0x2A) := by decide

theorem test_decode_getpix : decode 0x00000012 = .ok .getpix := by decide

theorem test_decode_sgn : decode 0x00000013 = .ok .sgn := by decide

theorem test_decode_vline : decode 0x00000920 = .ok (.vline 9) := by decide

theorem test_decode_hline : decode 0x00000721 = .ok (.hline 7) := by decide

theorem test_decode_line : decode 0x00000322 = .ok (.line 3) := by decide

theorem test_decode_vlinea : decode 0x00000924 = .ok (.vlinea 9) := by decide

theorem test_decode_hlinea : decode 0x00000725 = .ok (.hlinea 7) := by decide

theorem test_decode_linea : decode 0x0000FF26 = .ok (.linea 0xFF) := by decide

theorem test_decode_rect : decode 0x00000230 = .ok (.rect 2) := by decide

theorem test_decode_frect : decode 0x00000531 = .ok (.frect 5) := by decide

theorem test_decode_orect : decode 0x00050432 = .ok (.orect 4 5) := by decide

theorem test_decode_recta : decode 0x00000134 = .ok (.recta 1) := by decide

theorem test_decode_frecta : decode 0x00008035 = .ok (.frecta 0x80) := by decide

theorem test_decode_orecta : decode 0x00FE0136 = .ok (.orecta 1 0xFE) := by decide

theorem test_decode_buildtab : decode 0x00000040 = .ok .buildtab := by decide

theorem test_decode_circle : decode 0x00000741 = .ok (.circle 7) := by decide

theorem test_decode_tabrd : decode 0x00000042 = .ok .tabrd := by decide

theorem test_decode_circlea : decode 0x00000745 = .ok (.circlea 7) := by decide

theorem test_decode_fcircle : decode 0x00000048 = .ok (.fcircle 0) := by decide

theorem test_decode_ellipse : decode 0xFFFFFF49 = .ok (.ellipse 0xFFFFFF) := by decide

theorem test_decode_fellipse : decode 0x1234564A = .ok (.fellipse 0x123456) := by decide

theorem test_decode_itofx : decode 0x00000050 = .ok .itofx := by decide

theorem test_decode_fxtoi : decode 0x00000051 = .ok .fxtoi := by decide

theorem test_decode_fxmul : decode 0x00000052 = .ok .fxmul := by decide

theorem test_decode_fxdiv : decode 0x00000053 = .ok .fxdiv := by decide

/-- V2. -/
theorem test_decode_reserved_field : decode 0x01000711 = .illegal .reservedNonzero := by decide

/-- V3. -/
theorem test_decode_second_colour : decode 0x00010711 = .illegal .color2Nonzero := by decide

/-- V4. -/
theorem test_decode_colour : decode 0x00000112 = .illegal .colorNonzero := by decide

/-- V5, V9. -/
theorem test_decode_unlisted :
    decode 0x00000023 = .illegal .unlistedOpcode ∧ decode 0 = .illegal .unlistedOpcode := by decide

/-- V8, V6. -/
theorem test_table_word :
    decodeTableWord 32 0x00020132 = some (.orect 1 2) ∧ decodeTableWord 8 0xFF48 = some (.fcircle 0) := by decide

/-! ### Well-formedness -/

/-- R95: the one check on a command. -/
theorem test_reserved_illegal :
    (Instr.fcircle 0).wellFormed = false ∧ (Instr.ellipse 1).wellFormed = false ∧ (Instr.fellipse 2).wellFormed = false := by decide

/-- R100: a line with an operand too many, and a line of a reserved command. -/
theorem test_line_wrong_operands :
    (Line.command .sgn [1, 2]).wellFormed = false ∧ (Line.command (.fcircle 0) []).wellFormed = false := by decide

/-- R30: a geometry that does not fit its fields. -/
theorem test_geometry_too_wide :
    (Line.setgeom 65536 1).wellFormed = false ∧ (Line.setgeom 1 65536).wellFormed = false := by decide

/-! ### Pixel surface and sign step -/

/-- V11. -/
theorem test_addr : valueOf (exec .addr (ready .addr 319 199 0 0)) = some (0x0000F9FF, 0) := by decide

/-- V14. -/
theorem test_addr_extreme :
    valueOf (exec .addr (({ idle (-32768) (-32768) 0 0 with width := 0xFFFF } : State).start 0x10)) = some (0x80000000, 0) := by decide

/-- P1. -/
theorem test_setpix : paintOf (exec (.setpix 42) (ready (.setpix 42) 1 1 0 0)) = some ([(321, 42)], 0) := by decide

/-- V18, and the same with BOUNDS_CHECK false. -/
theorem test_setpix_out_of_bounds :
    errorOf (exec (.setpix 1) (ready (.setpix 1) 320 0 0 0)) = some (0x00000202, 0x140, 0) ∧
    faultOf (exec (.setpix 1) { ready (.setpix 1) 320 0 0 0 with bchk := false }) = some (.outOfBounds 320 0) := by decide

/-- S1. -/
theorem test_getpix : valueOf (exec .getpix ((ready .getpix 1 1 0 0).writeByte 321 42)) = some (0x2A, 0) := by decide

/-- V19. -/
theorem test_getpix_out_of_bounds :
    errorOf (exec .getpix (ready .getpix 0 (-1) 0 0)) = some (0x00000202, 0, 0xFFFFFFFF) := by decide

/-- V19b. -/
theorem test_sgn : valueOf (exec .sgn (ready .sgn (-7) 0 0 0)) = some (0xFFFFFFFF, 0) := by decide

/-- V19e. -/
theorem test_sgn_full_view : valueOf (exec .sgn (ready .sgn 0x00010000 0 0 0)) = some (1, 0) := by decide

/-! ### Lines -/

/-- V33. -/
theorem test_vline :
    paintOf (exec (.vline 9) (ready (.vline 9) 3 5 (-2) 0)) = some ([(963, 9), (1283, 9), (1603, 9)], 0) := by decide

/-- V33. -/
theorem test_vline_order : points (vline 3 5 (-2) 9) = [(3, 5), (3, 4), (3, 3)] := by decide

/-- P4. -/
theorem test_hline :
    paintOf (exec (.hline 9) (ready (.hline 9) 317 10 2 0)) = some ([(3517, 9), (3518, 9), (3519, 9)], 0) := by decide

/-- V34d. -/
theorem test_hline_out_of_bounds :
    look (fun t => (t.mem.length, t.statusWord, t.errx, t.erry)) (exec (.hline 9) (ready (.hline 9) 317 10 5 0)) =
      some (3, 0x00000202, 0x140, 0xA) := by decide

/-- V24, V27. -/
theorem test_line_run_major :
    points (bline 0 0 5 2 7) = [(0, 0), (1, 0), (2, 1), (3, 1), (4, 1), (5, 2)] ∧
    points (bline 0 0 (-7) 3 7) =
      [(0, 0), (-1, 0), (-2, 1), (-3, 1), (-4, 1), (-5, 2), (-6, 2), (-7, 3)] := by decide

/-- V26. -/
theorem test_line_rise_major :
    paintOf (exec (.line 1) (ready (.line 1) 0 0 2 5)) =
      some ([(0, 1), (320, 1), (641, 1), (961, 1), (1281, 1), (1602, 1)], 0) := by decide

/-- V34a. -/
theorem test_vlinea :
    paintOf (exec (.vlinea 9) (ready (.vlinea 9) 3 5 3 0)) = some ([(963, 9), (1283, 9), (1603, 9)], 0) := by decide

/-- V34. -/
theorem test_hlinea :
    points (planOf (.hlinea 7) (idle 0 0 0 0) (idle 5 0 0 0).latch).accesses =
      [(5, 0), (4, 0), (3, 0), (2, 0), (1, 0), (0, 0)] := by decide

/-- V34b. -/
theorem test_linea :
    paintOf (exec (.linea 7) (ready (.linea 7) 0 0 4 2)) =
      some ([(0, 7), (1, 7), (322, 7), (323, 7), (644, 7)], 0) := by decide

/-! ### Rectangles -/

/-- V38b. -/
theorem test_rect :
    points (rectOutline 2 2 3 0 7) =
      [(2, 2), (3, 2), (4, 2), (5, 2), (2, 2), (3, 2), (4, 2), (5, 2), (2, 2), (5, 2)] := by decide

/-- V38. -/
theorem test_rect_reversed :
    points (planOf (.rect 1) (idle 0 0 0 0) (idle 4 3 (-4) (-3)).latch).accesses =
      [(4, 3), (3, 3), (2, 3), (1, 3), (0, 3), (4, 0), (3, 0), (2, 0), (1, 0), (0, 0), (4, 3), (4, 2), (4, 1), (4, 0),
       (0, 3), (0, 2), (0, 1), (0, 0)] := by decide

/-- V38d. -/
theorem test_frect : points (fillRect 2 2 (-1) (-1) 7) = [(2, 2), (2, 1), (1, 2), (1, 1)] := by decide

/-- V39c. -/
theorem test_orect_small :
    paintOf (exec (.orect 1 2) (ready (.orect 1 2) 0 0 3 1)) =
      some ([(0, 1), (1, 2), (2, 2), (3, 1), (320, 1), (321, 2), (322, 2), (323, 1)], 0) := by decide

/-- V39b. -/
theorem test_orect_point : paintOf (exec (.orect 1 2) (ready (.orect 1 2) 0 0 0 0)) = some ([(0, 2)], 0) := by decide

/-- V38f. -/
theorem test_recta :
    (planOf (.recta 1) (idle 0 0 0 0) (idle 0 0 4 3).latch).accesses = rectOutline 0 0 4 3 1 := by decide

/-- V38e. -/
theorem test_frecta :
    points ((planOf (.frecta 1) (idle 0 0 0 0) (idle 4 3 0 0).latch).accesses.take 5) =
      [(4, 3), (4, 2), (4, 1), (4, 0), (3, 3)] := by decide

/-- V38g, V39e. -/
theorem test_orecta :
    points (planOf (.orecta 1 2) (idle 0 0 0 0) (idle 5 5 2 3).latch).accesses =
      [(5, 5), (4, 5), (3, 5), (2, 5), (5, 3), (4, 3), (3, 3), (2, 3), (5, 5), (5, 4), (5, 3), (2, 5), (2, 4), (2, 3),
       (4, 4), (3, 4)] := by decide

/-! ### The table and circles -/

/-- V47, V49, V49g. -/
theorem test_buildtab :
    look (fun t => (t.statusWord, tabEntry t.tab 0, tabEntry t.tab 1023)) (exec .buildtab (ready .buildtab 0 0 0 0)) =
      some (8, 65536, 2895) := by decide +kernel

/-- V49d. -/
theorem test_tabrd : valueOf (exec .tabrd (built .tabrd 512 0 0 0)) = some (0x0000DDB3, 8) := by decide +kernel

/-- V49h. -/
theorem test_tabrd_index : errorOf (exec .tabrd (built .tabrd 1024 0 0 0)) = some (0x0000050A, 0, 0) := by decide

/-- V46; P6, V43. -/
theorem test_circle_two :
    errorOf (exec (.circle 7) (ready (.circle 7) 50 50 0 0)) = some (0x00000302, 0, 0) ∧
    look (fun t => (t.mem.map Prod.fst, t.statusWord)) (exec (.circle 8) (built (.circle 8) 10 12 2 0)) =
      some ([3529, 3530, 3531, 3849, 3851, 4169, 4170, 4171], 8) := by decide +kernel

/-- V40. -/
theorem test_circle_ten :
    points ((circle trigTable 50 50 10 7).take 16) =
      [(50, 59), (50, 59), (50, 41), (50, 41), (59, 50), (41, 50), (59, 50), (41, 50), (51, 59), (49, 59), (51, 41),
       (49, 41), (59, 51), (41, 51), (59, 49), (41, 49)] := by decide +kernel

/-- P6. -/
theorem test_circlea :
    paintOf (exec (.circlea 7) (built (.circlea 7) 9 9 11 15)) = some ([(3850, 7)], 0x00000018) := by decide +kernel

/-- V48d. -/
theorem test_circlea_no_radius :
    paintOf (exec (.circlea 7) (built (.circlea 7) 10 10 11 30)) = some ([], 0x00000018) := by decide

/-- V6. -/
theorem test_fcircle :
    errorOf (exec (.fcircle 0) (ready (.fcircle 0) 10 12 2 15)) = some (0x00000102, 0, 0) := by decide

/-- V7. -/
theorem test_ellipse :
    errorOf (step ((idle 0 0 0 0).withFetchWord 32 0xFFFFFF49)) = some (0x00000102, 0, 0) := by decide

/-- V9a. -/
theorem test_fellipse : errorOf (step ((idle 0 0 0 0).withFetchWord 8 0x4A)) = some (0x00000102, 0, 0) := by decide

/-! ### Fixed point -/

/-- V50a. -/
theorem test_itofx : valueOf (exec .itofx (ready .itofx (-1) 0 0 0)) = some (0xFFFF0000, 0) := by decide

/-- V50c. -/
theorem test_itofx_wraps : valueOf (exec .itofx (ready .itofx 0x00008000 0 0 0)) = some (0x80000000, 0) := by decide

/-- V51. -/
theorem test_fxtoi : valueOf (exec .fxtoi (ready .fxtoi 0x0009F333 0 0 0)) = some (9, 0) := by decide

/-- V51a. -/
theorem test_fxtoi_floor : valueOf (exec .fxtoi (ready .fxtoi 0xFFFF8000 0 0 0)) = some (0xFFFFFFFF, 0) := by decide

/-- V52a. -/
theorem test_fxmul : valueOf (exec .fxmul (ready .fxmul 0xFFFFFFFF 1 0 0)) = some (0xFFFFFFFF, 0) := by decide

/-- V52b. -/
theorem test_fxmul_wraps :
    valueOf (exec .fxmul (ready .fxmul 0x7FFFFFFF 0x00020000 0 0)) = some (0xFFFFFFFE, 0) := by decide

/-- V53a. -/
theorem test_fxdiv :
    valueOf (exec .fxdiv (ready .fxdiv 0xFFFF0000 0x00030000 0 0)) = some (0xFFFFAAAB, 0) := by decide

/-- V53e. -/
theorem test_fxdiv_zero : errorOf (exec .fxdiv (ready .fxdiv 0x00010000 0 0 0)) = some (0x00000402, 0, 0) := by decide

/-! ### The host, the engine, reset -/

/-- V60: the start step makes no access. -/
theorem test_start_step : paintOf (move (ready (.hline 7) 0 0 3 0) .engine) = some ([], 0x00000001) := by decide

/-- V60. -/
theorem test_write_dropped :
    look (fun t => (t.a0, t.statusWord)) (move (ready (.hline 7) 0 0 3 0) (.write 0x08 9)) = some (0, 0x00000005) := by decide

/-- V60: the last access step ends the command. -/
theorem test_access_step :
    paintOf (move { ready (.hline 7) 0 0 3 0 with engine := some ⟨0, 0, 3, 0, 320, 200, some 3⟩ } .engine) =
      some ([(3, 7)], 0) := by decide

/-- V61. -/
theorem test_command_dropped :
    look (fun t => (t.cmd, t.statusWord)) (move (ready (.setpix 7) 0 0 0 0) (.write 0x00 0x811)) =
      some (0x711, 0x00000005) := by decide

/-- V62. -/
theorem test_error_blocks :
    look (fun t => (t.cmd, t.statusWord)) (move ((idle 0 0 0 0).raise .oob 400 0) (.write 0x00 0x111)) =
      some (0, 0x00000206) := by decide

/-- V62. -/
theorem test_clrerr :
    look (fun t => (t.statusWord, t.errx)) (move ((idle 0 0 0 0).raise .oob 400 0).dropped (.write 0x04 0x2)) =
      some (0x00000004, 0x190) := by decide

/-- V63. -/
theorem test_ignored_writes :
    look (fun t => t.statusWord) (move (idle 0 0 0 0) (.write 0x2C 1)) = some 0 ∧
    look (fun t => t.result) (move (idle 0 0 0 0) (.write 0x18 5)) = some 0 := by decide

/-- V64. -/
theorem test_reads_after_reset :
    (idle 0 0 0 0).hostRead 0x24 = 0x00C80140 ∧ (idle 0 0 0 0).hostRead 0x28 = 1 ∧ (idle 0 0 0 0).hostRead 0x2C = 0 := by decide

/-- P2. -/
theorem test_setgeom :
    (Line.setgeom 8 4).expand = [.write 0x24 0x00040008] ∧
    look (fun t => t.readReg .geom) (move (idle 0 0 0 0) (.write 0x24 0x00040008)) = some 0x00040008 := by decide

/-- P1. -/
theorem test_expand :
    (Line.command (.setpix 42) [1, 1]).expand = [.write 0x08 1, .write 0x0C 1, .write 0x00 0x00002A11, .wait] := by decide

/-- R280: a program whose last line is `WR CMD` has ended at once, while the command runs; one with a `WAIT` left has not. -/
theorem test_ended_while_busy :
    look (fun t => (t.ended, t.busy)) (move (idle 0 0 3 0) (.write 0x00 0x721)) = some (true, true) ∧
    (withMoves (ready (.hline 7) 0 0 3 0) [.engine, .wait]).ended = false ∧
    (withMoves (ready (.hline 7) 0 0 3 0) [.engine, .otherRead 0]).ended = true := by decide

/-- R280, V18: an error, and a model fault, are no good end. -/
theorem test_ended_well :
    endedWell (exec (.setpix 42) (ready (.setpix 42) 1 1 0 0)) = true ∧
    endedWell (exec (.setpix 1) (ready (.setpix 1) 320 0 0 0)) = false ∧
    endedWell (exec (.setpix 1) { ready (.setpix 1) 320 0 0 0 with bchk := false }) = false := by decide

/-- P7. -/
theorem test_reset_keeps_bytes :
    paintOf (move ((ready (.frect 5) 0 0 4 3).writeByte 320 5) .reset) = some ([(320, 5)], 0) := by decide

/-- V69. -/
theorem test_illegal_first :
    errorOf (step ((idle 0 0 0 0).withFetchWord 32 0x01000041)) = some (0x00000102, 0, 0) := by decide

/-- R62. -/
theorem test_narrow_refused : refusalOf (move (idle 0 0 0 0) (.narrow 0x05)) = some (.narrowAccess 5) := by decide

/-- R74: the first offset that no geometry reaches. -/
theorem test_no_such_byte :
    faultOf (move (idle 0 0 0 0) (.otherWrite 4294836225 1)) = some (.noSuchByte 4294836225) := by decide

/-! ### Witnesses: the hypotheses of each statement are met, at the ends of their ranges -/

/-- What a `CMD` write latches from the operands of `idle`. -/
def latched (x y z u : Int) : Engine := (idle x y z u).latch

theorem ready_accepted (i : Instr) (x y z u : Int) : (ready i x y z u).accepted (latched x y z u) := ⟨rfl, rfl⟩

theorem built_accepted (i : Instr) (x y z u : Int) : (built i x y z u).accepted (latched x y z u) := ⟨rfl, rfl⟩

theorem built_tab (i : Instr) (x y z u : Int) : (built i x y z u).tab = trigTable := State.setTable_tab _ _

/-- BOUNDS_CHECK not built in. -/
def unchecked (s : State) : State := { s with bchk := false }

theorem ready_inv (i : Instr) (x y z u : Int) : (ready i x y z u).Inv where
  mem_wf := ⟨List.Pairwise.nil, by simp [ready, idle, State.start, State.reset]⟩
  tab_length := by simp [ready, idle, State.start, State.reset]
  tab_valid := by simp [ready, idle, State.start, State.reset]
  code_iff := by simp [ready, idle, State.start, State.reset]
  code_le := by simp [ready, idle, State.start, State.reset]
  busy_no_error := by simp [ready, idle, State.start, State.reset]
  latched := by
    intro e h
    cases h
    rfl
  position := by
    intro e p h hp
    cases h
    cases hp

/-- An unchecked command past the right edge, with every invariant met. -/
theorem unchecked_inv : (unchecked (ready (.setpix 1) 320 0 0 0)).Inv where
  mem_wf := (ready_inv (.setpix 1) 320 0 0 0).mem_wf
  tab_length := (ready_inv (.setpix 1) 320 0 0 0).tab_length
  tab_valid := (ready_inv (.setpix 1) 320 0 0 0).tab_valid
  code_iff := (ready_inv (.setpix 1) 320 0 0 0).code_iff
  code_le := (ready_inv (.setpix 1) 320 0 0 0).code_le
  busy_no_error := (ready_inv (.setpix 1) 320 0 0 0).busy_no_error
  latched := (ready_inv (.setpix 1) 320 0 0 0).latched
  position := (ready_inv (.setpix 1) 320 0 0 0).position

theorem wit_EncodeOfDecode :
    decode 0xFFFFFF4A = .ok (.fellipse 0xFFFFFF) ∧ decode 0x00FFFF36 = .ok (.orecta 0xFF 0xFF) := by decide

theorem wit_WordSelectsRowByMask :
    (⟨"ORECT", 0x00000032, 0xFF0000FF⟩ : OpcodeRow) ∈ opcodeTable ∧
    OpcodeRow.selects ⟨"ORECT", 0x00000032, 0xFF0000FF⟩ 0x00FFFF32 = true := by decide

/-- The hypothesis of IllegalWordRaisesIllegal, from the rows that a word selects. -/
theorem no_legal_row (w : Word) (rows : List OpcodeRow) (h : opcodeTable.filter (fun row => row.selects w) = rows)
    (hr : ∀ row ∈ rows, row.mnemonic ∈ ["FCIRCLE", "ELLIPSE", "FELLIPSE"]) :
    ∀ row ∈ opcodeTable, row.selects w = true → row.mnemonic ∈ ["FCIRCLE", "ELLIPSE", "FELLIPSE"] :=
  fun row hm hs => hr row (h ▸ List.mem_filter.2 ⟨hm, hs⟩)

/-- An unlisted opcode, a field that must be 0, a reserved opcode. -/
theorem wit_IllegalWordRaisesIllegal :
    (∀ w ∈ [(0x00000054 : Word), 0x00000112, 0xFFFFFF49],
      ∀ row ∈ opcodeTable, row.selects w = true → row.mnemonic ∈ ["FCIRCLE", "ELLIPSE", "FELLIPSE"]) ∧
    (∀ moves : List Action, (withMoves ((idle 0 0 0 0).start 0x54) moves).script = moves ∧
      (withMoves ((idle 0 0 0 0).start 0x54) moves).accepted (latched 0 0 0 0)) := by
  refine ⟨fun w hw => ?_, fun moves => ⟨rfl, rfl, rfl⟩⟩
  simp only [List.mem_cons, List.not_mem_nil, or_false] at hw
  rcases hw with rfl | rfl | rfl
  · exact no_legal_row _ [] (by decide) (by simp)
  · exact no_legal_row _ [] (by decide) (by simp)
  · exact no_legal_row _ [⟨"ELLIPSE", 0x00000049, 0x000000FF⟩] (by decide) (by simp)

/-- One state for each of the three moves. -/
theorem wit_StepRunsDecodedCommand :
    decode (ready (.line 3) 0 0 5 2).cmd = .ok (.line 3) ∧
    (∀ moves ∈ [[], [Action.wait], [.engine, .wait]],
      (withMoves (ready (.line 3) 0 0 5 2) moves).engine = some (latched 0 0 5 2) ∧
      (withMoves (ready (.line 3) 0 0 5 2) moves).script = moves ∧
      (withMoves (ready (.line 3) 0 0 5 2) moves).cmd = (ready (.line 3) 0 0 5 2).cmd) := by decide

/-- A drawing command (with its first and its last access still to come), one without accesses, one that raises. -/
theorem wit_EngineStepsReachCommandEnd :
    (ready (.line 3) 0 0 5 2).accepted (latched 0 0 5 2) ∧ decode (ready (.line 3) 0 0 5 2).cmd = .ok (.line 3) ∧
    (ready .addr 319 199 0 0).accepted (latched 319 199 0 0) ∧ decode (ready .addr 319 199 0 0).cmd = .ok .addr ∧
    (ready .tabrd 0 0 0 0).accepted (latched 0 0 0 0) ∧ decode (ready .tabrd 0 0 0 0).cmd = .ok .tabrd ∧
    planOf (.line 3) (ready (.line 3) 0 0 5 2) (latched 0 0 5 2) = .draw false (bline 0 0 5 2 3) ∧
    (∀ n ∈ [0, 5], n < (bline 0 0 5 2 3).length ∧
      ∀ a ∈ (bline 0 0 5 2 3).take n, (latched 0 0 5 2).inBounds a.x a.y = true) :=
  ⟨ready_accepted .., by decide, ready_accepted .., by decide, ready_accepted .., by decide, by decide, by decide⟩

/-- For each of the two ends: a checked point past the edge, and the same unchecked. -/
theorem wit_BusyCommandEnds :
    ((ready (.setpix 1) 320 0 0 0).Inv ∧ (ready (.setpix 1) 320 0 0 0).script = [] ∧
      (ready (.setpix 1) 320 0 0 0).engine = some (latched 320 0 0 0)) ∧
    (unchecked (ready (.setpix 1) 320 0 0 0)).Inv ∧ (unchecked (ready (.setpix 1) 320 0 0 0)).script = [] ∧
      (unchecked (ready (.setpix 1) 320 0 0 0)).engine = some (latched 320 0 0 0) :=
  ⟨⟨ready_inv .., rfl, rfl⟩, unchecked_inv, rfl, rfl⟩

theorem wit_IdleBlockHasNoStep : (idle 1 2 3 4).engine = none ∧ (idle 1 2 3 4).script = [] := ⟨rfl, rfl⟩

theorem wit_StepKeepsInvariant :
    ∃ s t : State, s.Inv ∧ step s = .next t ∧ s.engine ≠ none :=
  ⟨ready .sgn 5 0 0 0, _, ready_inv .., rfl, by decide⟩

/-- Idle, and in the middle of a command. -/
theorem wit_ResetEventSetsRegisters :
    (withMoves (idle 1 2 3 4) [.reset]).script = [.reset] ∧
    (withMoves (ready (.frect 5) 0 0 4 3) [.reset]).script = [.reset] ∧
    (withMoves (ready (.frect 5) 0 0 4 3) [.reset]).engine ≠ none := by decide

/-- Without and with an error on record. -/
theorem wit_OperandWriteAccepted :
    (withMoves (idle 0 0 0 0) [.write Reg.a3.offset 7]).engine = none ∧
    (withMoves (idle 0 0 0 0) [.write Reg.a3.offset 7]).script = [.write Reg.a3.offset 7] ∧
    (withMoves ((idle 0 0 0 0).raise .oob 1 1) [.write Reg.geom.offset 0]).engine = none ∧
    (withMoves ((idle 0 0 0 0).raise .oob 1 1) [.write Reg.geom.offset 0]).script = [.write Reg.geom.offset 0] := by
  decide

theorem wit_WriteWhileBusyDropped :
    ∀ r ∈ [Reg.a0, .a1, .a2, .a3, .geom, .cmd],
      (withMoves (ready .sgn 1 0 0 0) [.write r.offset 9]).engine = some (latched 1 0 0 0) ∧
      (withMoves (ready .sgn 1 0 0 0) [.write r.offset 9]).script = [.write r.offset 9] := by decide

/-- Busy, with an error on record, and ready for a command. -/
theorem wit_CmdWriteStartsCommand :
    (withMoves (ready .sgn 1 0 0 0) [.write 0 0x13]).script = [.write 0 0x13] ∧
    (withMoves (ready .sgn 1 0 0 0) [.write 0 0x13]).engine ≠ none ∧
    (withMoves ((idle 0 0 0 0).raise .divz 0 0) [.write 0 0x13]).err = true ∧
    (withMoves (idle 0 0 0 0) [.write 0 0x13]).script = [.write 0 0x13] ∧
    (withMoves (idle 0 0 0 0) [.write 0 0x13]).engine = none ∧
    (withMoves (idle 0 0 0 0) [.write 0 0x13]).err = false := by decide

theorem wit_StatusWriteClears :
    (withMoves (idle 0 0 0 0) [.write 0x04 0x16]).script = [.write 0x04 0x16] ∧ (0x16 : Word).getLsbD 1 = true ∧
    (withMoves (idle 0 0 0 0) [.write 0x04 0]).script = [.write 0x04 0] ∧ (0 : Word).getLsbD 1 = false := by decide

theorem wit_ReadOnlyAndUnmappedWritesIgnored :
    ∀ off ∈ [0x18, 0x28, 0x2C, 0x01, 0x2B],
      (withMoves (idle 0 0 0 0) [.write off 1]).script = [.write off 1] ∧
      (off ∈ [0x18, 0x1C, 0x20, 0x28] ∨ off ≥ 0x2C ∨ off % 4 ≠ 0) := by decide

theorem wit_HostReadReturnsRegister :
    ∀ off ∈ [0x00, 0x04, 0x24, 0x28, 0x2C, 0x29], (withMoves (idle 0 0 0 0) [.read off]).script = [.read off] := by decide

theorem wit_NarrowAccessRefused : (withMoves (idle 0 0 0 0) [.narrow 0x05]).script = [.narrow 0x05] := rfl

/-- The last byte that some geometry reaches. -/
theorem wit_OtherAgentWritesOneByte :
    4294836224 < 65535 * 65535 ∧
    (withMoves (idle 0 0 0 0) [.otherWrite 4294836224 1]).script = [.otherWrite 4294836224 1] ∧
    (withMoves (ready .sgn 1 0 0 0) [.otherRead 4294836224]).script = [.otherRead 4294836224] := by decide

theorem wit_ErrorBlocksUntilAcknowledged :
    (withMoves ((idle 0 0 0 0).raise .oob 1 1) [.write 0 0x13, .write 4 2, .write 0 0x13]).engine = none ∧
    (withMoves ((idle 0 0 0 0).raise .oob 1 1) [.write 0 0x13, .write 4 2, .write 0 0x13]).err = true ∧
    (withMoves ((idle 0 0 0 0).raise .oob 1 1) [.write 0 0x13, .write 4 2, .write 0 0x13]).script =
      [.write 0 0x13, .write 4 2, .write 0 0x13] := by decide

/-- A command with four operands and one with none; a program, and the empty one. -/
theorem wit_CommandLineIsOneCall :
    (idle 0 0 0 0).engine = none ∧ (idle 0 0 0 0).err = false ∧
    (Line.command (.line 7) [0, -1, 32767, -32768]).wellFormed = true ∧ (Line.command .buildtab []).wellFormed = true ∧
    (withMoves (idle 0 0 0 0) (Line.command .buildtab []).expand).script = (Line.command .buildtab []).expand ∧
    (∀ lines ∈ [[], [Line.command .buildtab [], .wr .a2 7, .clrerr]],
      (∀ l ∈ lines, ∀ v, l ≠ .wr .cmd v) ∧ ((idle 0 0 0 0).load lines).engine = none ∧
      ((idle 0 0 0 0).load lines).script = assemble lines) := by
  refine ⟨rfl, rfl, by decide, by decide, rfl, fun lines h => ⟨?_, rfl, rfl⟩⟩
  simp only [List.mem_cons, List.not_mem_nil, or_false] at h
  rcases h with rfl | rfl <;> simp

/-- The first and the last pixel. -/
theorem wit_InBoundsOffsetsDistinct :
    (latched 0 0 0 0).inBounds 0 0 = true ∧ (latched 0 0 0 0).inBounds 319 199 = true := by decide

theorem wit_ShiftFormAgrees : (latched 0 0 0 0).w = 320 := rfl

theorem wit_AddrResult : (ready .addr (-32768) (-32768) 0 0).accepted (latched (-32768) (-32768) 0 0) := ready_accepted ..

/-- The last pixel. -/
theorem wit_SetpixWritesPixel :
    ∃ s e, State.accepted s e ∧ e.inBounds e.c0 e.c1 = true :=
  ⟨ready (.setpix 7) 319 199 0 0, latched 319 199 0 0, ready_accepted .., by decide⟩

/-- The first pixel. -/
theorem wit_GetpixReadsPixel :
    ∃ s e, State.accepted s e ∧ e.inBounds e.c0 e.c1 = true :=
  ⟨ready .getpix 0 0 0 0, latched 0 0 0 0, ready_accepted .., by decide⟩

theorem wit_SgnResult : (ready .sgn (-2147483648) 0 0 0).accepted (latched (-2147483648) 0 0 0) := ready_accepted ..

theorem wit_SetThenGet :
    ∃ (s : State) (x y : Int) (c : Byte), s.engine = none ∧ s.err = false ∧ 0 ≤ x ∧ x < s.width.toNat ∧ x ≤ 32767 ∧
      0 ≤ y ∧ y < s.height.toNat ∧ y ≤ 32767 ∧
      s.script = assemble [.command (.setpix c) [x, y], .command .getpix [x, y]] :=
  ⟨withMoves (idle 0 0 0 0) (assemble [.command (.setpix 42) [319, 199], .command .getpix [319, 199]]), 319, 199, 42,
    rfl, rfl, by decide, by decide, by decide, by decide, by decide, by decide, rfl⟩

/-- A whole column upwards, and one between absolute ends. -/
theorem wit_VerticalLinesDraw :
    (∃ s e, State.accepted s e ∧ e.inBounds e.c0 e.c1 = true ∧ e.inBounds e.c0 (e.c1 + e.c2) = true) ∧
    (∃ s e, State.accepted s e ∧ e.inBounds e.c0 e.c1 = true ∧ e.inBounds e.c0 e.c2 = true) :=
  ⟨⟨ready (.vline 9) 319 199 (-199) 0, latched 319 199 (-199) 0, ready_accepted .., by decide, by decide⟩,
   ⟨ready (.vlinea 9) 0 0 199 0, latched 0 0 199 0, ready_accepted .., by decide, by decide⟩⟩

/-- A whole row leftwards, and one between absolute ends. -/
theorem wit_HorizontalLinesDraw :
    (∃ s e, State.accepted s e ∧ e.inBounds e.c0 e.c1 = true ∧ e.inBounds (e.c0 + e.c2) e.c1 = true) ∧
    (∃ s e, State.accepted s e ∧ e.inBounds e.c0 e.c1 = true ∧ e.inBounds e.c2 e.c1 = true) :=
  ⟨⟨ready (.hline 9) 319 199 (-319) 0, latched 319 199 (-319) 0, ready_accepted .., by decide, by decide⟩,
   ⟨ready (.hlinea 9) 0 0 319 0, latched 0 0 319 0, ready_accepted .., by decide, by decide⟩⟩

/-- From corner to corner; for lines, outlines and fills alike. -/
theorem wit_GeneralLinesDraw :
    (∃ s e, State.accepted s e ∧ e.inBounds e.c0 e.c1 = true ∧ e.inBounds (e.c0 + e.c2) (e.c1 + e.c3) = true) ∧
    (∃ s e, State.accepted s e ∧ e.inBounds e.c0 e.c1 = true ∧ e.inBounds e.c2 e.c3 = true) :=
  ⟨⟨ready (.line 9) 319 199 (-319) (-199), latched 319 199 (-319) (-199), ready_accepted .., by decide, by decide⟩,
   ⟨ready (.linea 9) 0 199 319 0, latched 0 199 319 0, ready_accepted .., by decide, by decide⟩⟩

theorem wit_OutlinesDraw :
    (∃ s e, State.accepted s e ∧ e.inBounds e.c0 e.c1 = true ∧ e.inBounds (e.c0 + e.c2) (e.c1 + e.c3) = true) ∧
    (∃ s e, State.accepted s e ∧ e.inBounds e.c0 e.c1 = true ∧ e.inBounds e.c2 e.c3 = true) :=
  ⟨⟨ready (.rect 9) 0 0 319 199, latched 0 0 319 199, ready_accepted .., by decide, by decide⟩,
   ⟨ready (.recta 9) 319 199 0 0, latched 319 199 0 0, ready_accepted .., by decide, by decide⟩⟩

theorem wit_FilledBoxesDraw :
    (∃ s e, State.accepted s e ∧ e.inBounds e.c0 e.c1 = true ∧ e.inBounds (e.c0 + e.c2) (e.c1 + e.c3) = true) ∧
    (∃ s e, State.accepted s e ∧ e.inBounds e.c0 e.c1 = true ∧ e.inBounds e.c2 e.c3 = true) :=
  ⟨⟨ready (.frect 9) 319 0 (-319) 0, latched 319 0 (-319) 0, ready_accepted .., by decide, by decide⟩,
   ⟨ready (.frecta 9) 319 199 0 0, latched 319 199 0 0, ready_accepted .., by decide, by decide⟩⟩

/-- Extents of 0 and 1, whose inset covers the outline, and the whole surface. -/
theorem wit_OutlinedBoxesDraw :
    (∃ s e, State.accepted s e ∧ e.inBounds e.c0 e.c1 = true ∧ e.inBounds (e.c0 + e.c2) (e.c1 + e.c3) = true ∧
      e.c2 = 1 ∧ e.c3 = 0) ∧
    (∃ s e, State.accepted s e ∧ e.inBounds e.c0 e.c1 = true ∧
      e.inBounds (e.c0 + (e.c2 - e.c0)) (e.c1 + (e.c3 - e.c1)) = true ∧ e.c2 - e.c0 = -319 ∧ e.c3 - e.c1 = 199) :=
  ⟨⟨ready (.orect 1 2) 318 199 1 0, latched 318 199 1 0, ready_accepted .., by decide, by decide, by decide, by decide⟩,
   ⟨ready (.orecta 1 2) 319 0 0 199, latched 319 0 0 199, ready_accepted .., by decide, by decide, by decide, by decide⟩⟩

theorem wit_BuildtabCompletes : (ready .buildtab 0 0 0 0).accepted (latched 0 0 0 0) := ready_accepted ..

/-- Both ends of the table, and both sides outside it. -/
theorem wit_TabrdResult :
    (∀ x ∈ [(0 : Int), 1023], (built .tabrd x 0 0 0).tv = true ∧ 0 ≤ (latched x 0 0 0).c0 ∧ (latched x 0 0 0).c0 ≤ 1023) ∧
    (∀ x ∈ [(-1 : Int), 1024, -32768, 32767],
      (built .tabrd x 0 0 0).tv = true ∧ ((latched x 0 0 0).c0 < 0 ∨ 1023 < (latched x 0 0 0).c0)) ∧
    (built .tabrd 1023 0 0 0).accepted (latched 1023 0 0 0) :=
  ⟨by decide, by decide, built_accepted ..⟩

theorem wit_TableCommandsNeedTable :
    (ready (.circle 7) 50 50 0 0).accepted (latched 50 50 0 0) ∧ (ready (.circle 7) 50 50 0 0).tv = false ∧
    (ready (.circlea 7) 0 0 9 9).accepted (latched 0 0 9 9) ∧ (ready (.circlea 7) 0 0 9 9).tv = false ∧
    (ready .tabrd 1024 0 0 0).accepted (latched 1024 0 0 0) ∧ (ready .tabrd 1024 0 0 0).tv = false :=
  ⟨ready_accepted .., rfl, ready_accepted .., rfl, ready_accepted .., rfl⟩

/-- A circle of radius 2 has no point further than 1 from its centre (V43). -/
theorem circle_two_near (cx cy x y : Int) (h : circlePix cx cy 2 x y) : (x - cx).natAbs ≤ 1 ∧ (y - cy).natAbs ≤ 1 := by
  obtain ⟨k, hk, h⟩ := h
  have h2 : circleRow 2 2 = 0 := by decide +kernel
  have h1 : circleRow 2 1 = 1 := by decide +kernel
  have h0 : circleRow 2 0 = 1 := rfl
  have hlt : k < 2 := by
    by_contra hge
    have := hk 2 (by omega)
    omega
  interval_cases k <;> omega

/-- A circle that touches the first column and row, and a radius that draws nothing. -/
theorem wit_CircleDraws :
    (∃ s e, State.accepted s e ∧ s.tv = true ∧ s.tab = trigTable ∧ e.c2 = 2 ∧
      ∀ x y, circlePix e.c0 e.c1 e.c2 x y → e.inBounds x y = true) ∧
    (∃ s e, State.accepted s e ∧ s.tv = true ∧ s.tab = trigTable ∧ e.c2 = 0 ∧
      ∀ x y, circlePix e.c0 e.c1 e.c2 x y → e.inBounds x y = true) := by
  refine ⟨⟨built (.circle 7) 1 1 2 0, latched 1 1 2 0, built_accepted .., rfl, built_tab .., rfl, fun x y h => ?_⟩,
    ⟨built (.circle 7) (-5) 500 0 0, latched (-5) 500 0 0, built_accepted .., rfl, built_tab .., rfl, fun x y h => ?_⟩⟩
  · have hc : (latched 1 1 2 0).c0 = 1 ∧ (latched 1 1 2 0).c1 = 1 ∧ (latched 1 1 2 0).c2 = 2 := by decide
    have hg : (latched 1 1 2 0).w.toNat = 320 ∧ (latched 1 1 2 0).h.toNat = 200 := by decide
    rw [hc.1, hc.2.1, hc.2.2] at h
    have hn := circle_two_near _ _ _ _ h
    simp only [Engine.inBounds, hg.1, hg.2, Bool.and_eq_true, decide_eq_true_eq]
    omega
  · obtain ⟨k, hk, -⟩ := h
    exact absurd (hk 0 (Nat.zero_le k)) (by decide)

/-- Square and not square, with a circle of radius 2 around the pixel in column 2 and row 2. -/
theorem wit_CircleaDraws :
    ∀ u ∈ [(4 : Int), 5], ∃ s e, State.accepted s e ∧ s.tv = true ∧ s.tab = trigTable ∧ e.c3 = u ∧
      2 = Int.tdiv (e.c2 - e.c0) 2 ∧ 2 = e.c0 + 2 ∧ 2 = e.c1 + Int.tdiv (e.c3 - e.c1) 2 ∧
      ∀ x y, circlePix 2 2 2 x y → e.inBounds x y = true := by
  intro u hu
  refine ⟨built (.circlea 7) 0 0 4 u, latched 0 0 4 u, built_accepted .., rfl, built_tab .., ?_⟩
  have hg : (latched 0 0 4 u).w.toNat = 320 ∧ (latched 0 0 4 u).h.toNat = 200 := ⟨rfl, rfl⟩
  refine ⟨?_, ?_, ?_, ?_, fun x y h => ?_⟩
  · fin_cases hu <;> decide
  · fin_cases hu <;> decide
  · fin_cases hu <;> decide
  · fin_cases hu <;> decide
  · have hn := circle_two_near _ _ _ _ h
    simp only [Engine.inBounds, hg.1, hg.2, Bool.and_eq_true, decide_eq_true_eq]
    omega

theorem wit_ReservedOpcodesRaise :
    (0xABCDEF48 : Word).extractLsb' 0 8 = 0x48 ∧ (0xFFFFFF49 : Word).extractLsb' 0 8 = 0x49 ∧
    (0x0000004A : Word).extractLsb' 0 8 = 0x4A ∧
    (ready (.fellipse 0) 0 0 0 0).accepted (latched 0 0 0 0) :=
  ⟨by decide, by decide, by decide, ready_accepted ..⟩

theorem wit_FixedPointResults : (ready .fxmul (-1) 1 0 0).accepted (latched (-1) 1 0 0) := ready_accepted ..

/-- The smallest divisors and zero. -/
theorem wit_FxdivResult :
    (ready .fxdiv (-2147483648) (-1) 0 0).accepted (latched (-2147483648) (-1) 0 0) ∧
    (latched (-2147483648) (-1) 0 0).l1 ≠ 0 ∧ (latched 65536 1 0 0).l1 ≠ 0 ∧ (latched 65536 0 0 0).l1 = 0 :=
  ⟨ready_accepted .., by decide, by decide, by decide⟩

/-- Three pixels in bounds, then two out of bounds (V34d), with the check built in and without. -/
theorem wit_OutOfBoundsStops :
    (ready (.hline 9) 317 10 4 0).accepted (latched 317 10 4 0) ∧ (ready (.hline 9) 317 10 4 0).bchk = true ∧
    (unchecked (ready (.hline 9) 317 10 4 0)).accepted (latched 317 10 4 0) ∧
    planOf (.hline 9) (ready (.hline 9) 317 10 4 0) (latched 317 10 4 0) =
      .draw false ([.plot 317 10 9, .plot 318 10 9, .plot 319 10 9] ++ .plot 320 10 9 :: [.plot 321 10 9]) ∧
    (∀ b ∈ [Access.plot 317 10 9, .plot 318 10 9, .plot 319 10 9],
      (latched 317 10 4 0).inBounds b.x b.y = true) ∧
    (latched 317 10 4 0).inBounds 320 10 = false :=
  ⟨ready_accepted .., rfl, ⟨rfl, rfl⟩, by decide, by decide, by decide⟩

/-- The two extreme corners of the operands. -/
theorem wit_AccessPointsInRange :
    ((ready (.rect 1) (-32768) (-32768) (-1) 0).tv = true → (ready (.rect 1) (-32768) (-32768) (-1) 0).tab = trigTable) ∧
    Access.plot (-32769) (-32768) 1 ∈
      (planOf (.rect 1) (ready (.rect 1) (-32768) (-32768) (-1) 0) (latched (-32768) (-32768) (-1) 0)).accesses ∧
    Access.plot 32767 32767 1 ∈
      (planOf (.setpix 1) (ready (.setpix 1) 32767 32767 0 0) (latched 32767 32767 0 0)).accesses :=
  ⟨fun h => by simp [ready, idle, State.start, State.reset] at h, by decide, by decide⟩

/-- A command that completes, one that ends in an error, and a drawing command. -/
theorem wit_CommandFrame :
    (∃ t, exec .sgn (ready .sgn 5 0 0 0) = .next t ∧ t.err = false) ∧
    (∃ t, exec .fxdiv (ready .fxdiv 5 0 0 0) = .next t ∧ t.err = true) ∧
    (∃ t, exec (.setpix 7) (ready (.setpix 7) 319 199 0 0) = .next t ∧ t.mem ≠ []) :=
  ⟨⟨_, rfl, by decide⟩, ⟨_, rfl, by decide⟩, ⟨_, rfl, by decide⟩⟩

theorem wit_RegisterWriters :
    (∃ t, (ready .fxdiv 5 0 0 0).accepted (latched 5 0 0 0) ∧ (ready .fxdiv 5 0 0 0).err = false ∧
      exec .fxdiv (ready .fxdiv 5 0 0 0) = .next t ∧ t.err = true) ∧
    (∃ t, (ready (.setpix 7) 0 0 0 0).accepted (latched 0 0 0 0) ∧ (ready (.setpix 7) 0 0 0 0).err = false ∧
      exec (.setpix 7) (ready (.setpix 7) 0 0 0 0) = .next t ∧ t.err = false) :=
  ⟨⟨_, ready_accepted .., rfl, rfl, by decide⟩, ⟨_, ready_accepted .., rfl, rfl, by decide⟩⟩

/-- The first byte outside the framebuffer of the reset geometry, after a command at its last pixel. -/
theorem wit_FramebufferConfined :
    ∃ t, (ready (.setpix 7) 319 199 0 0).engine = some (latched 319 199 0 0) ∧
      exec (.setpix 7) (ready (.setpix 7) 319 199 0 0) = .next t ∧
      (latched 319 199 0 0).w.toNat * (latched 319 199 0 0).h.toNat ≤ 64000 :=
  ⟨_, rfl, rfl, by decide⟩

theorem wit_OnlyGetpixReads :
    ∃ t, (ready (.setpix 7) 319 199 0 0).accepted (latched 319 199 0 0) ∧ Instr.setpix 7 ≠ .getpix ∧
      exec (.setpix 7) (ready (.setpix 7) 319 199 0 0) = .next t :=
  ⟨_, ready_accepted .., by decide, rfl⟩

end Sys2Proof.Machine.Tests
end

section
/-! PROOFS. The engine one step at a time (spec/10_state.md R37): a command stepped to its end goes where the command
taken whole goes (spec/00_scope.md R14). -/

namespace Sys2Proof.Machine

/-! ### Counting engine steps -/

theorem engineSteps_next (n : Nat) (s t : State) (h : s.engineStep = .next t) :
    engineSteps (n + 1) s = engineSteps n t := by simp [engineSteps, h]

theorem engineSteps_fault (n : Nat) (s : State) (r : Fault) (h : s.engineStep = .fault r) :
    engineSteps (n + 1) s = .fault r := by simp [engineSteps, h]

/-- An idle engine stays idle however often it is stepped (R38). -/
theorem engineSteps_idle (n : Nat) (s : State) (h : s.engine = none) : engineSteps n s = .next s := by
  induction n with
  | zero => rfl
  | succ n ih => rw [engineSteps_next n s s (engineStep_idle s h), ih]

/-! ### The plan is the same at every step -/

/-- A plan does not read the position, so the sequence computed again at each step is the start step's (log entry 16). -/
@[simp] theorem planOf_pos (i : Instr) (s : State) (e : Engine) (p : Option Nat) :
    planOf i s { e with pos := p } = planOf i s e := by
  cases i <;> rfl

/-- Of the registers and the framebuffer a plan reads the table and TV only (R37). -/
theorem planOf_congr (i : Instr) (s t : State) (e : Engine) (htv : t.tv = s.tv) (htab : t.tab = s.tab) :
    planOf i t e = planOf i s e := by
  cases i with
  | tabrd => simp only [planOf, planTabrd, htv, htab]
  | circle c => simp only [planOf, planCircle, htv, htab]
  | circlea c => simp only [planOf, planCirclea, htv, htab]
  | _ => rfl

/-! ### The run of the accesses, its first step taken off -/

theorem runAccesses_cons_next (s t : State) (e : Engine) (a : Access) (rest : List Access) (h : s.engine = some e)
    (hstep : s.accessStep e a rest.isEmpty = .next t) : s.runAccesses (a :: rest) = t.runAccesses rest := by
  simp [State.runAccesses, h, hstep]

theorem runAccesses_cons_fault (s : State) (e : Engine) (a : Access) (rest : List Access) (r : Fault)
    (h : s.engine = some e) (hstep : s.accessStep e a rest.isEmpty = .fault r) :
    s.runAccesses (a :: rest) = .fault r := by
  simp [State.runAccesses, h, hstep]

/-! ### A running command and the accesses it has left -/

/-- The engine runs command `i` on what `e` latched and stands before access `p` (R37); `rest` are the accesses left. -/
structure State.StandsBefore (s : State) (i : Instr) (e : Engine) (p : Nat) (rest : List Access) : Prop where
  engine : s.engine = some { e with pos := some p }
  decoded : decode s.cmd = .ok i
  left : (planOf i s e).accesses.drop p = rest

section
variable {s : State} {i : Instr} {e : Engine} {p : Nat} {a : Access} {rest : List Access}

/-- A step there is exactly the next access step. -/
theorem State.StandsBefore.engineStep_eq (h : s.StandsBefore i e p (a :: rest)) :
    s.engineStep = s.accessStep { e with pos := some p } a rest.isEmpty := by
  rw [engineStep_ok s _ i h.engine h.decoded, State.performOne, h.engine]
  simp only [planOf_pos, h.left]

/-- An access made and the position advanced, the engine stands before the next access of the same sequence. -/
theorem State.StandsBefore.advance (h : s.StandsBefore i e p (a :: rest)) :
    ((s.access e a).advance { e with pos := some p }).StandsBefore i e (p + 1) rest where
  engine := rfl
  decoded := by simpa using h.decoded
  left := by
    rw [planOf_congr i s _ e (by simp) (by simp), ← List.tail_drop, h.left, List.tail_cons]

/-- As many steps as there are accesses left run them all, or stop where their run stops. -/
theorem State.StandsBefore.engineSteps_eq_runAccesses (h : s.StandsBefore i e p rest) :
    engineSteps rest.length s = s.runAccesses rest := by
  induction rest generalizing s p with
  | nil => rfl
  | cons a rest ih =>
    rw [List.length_cons]
    rcases accessStep_cases s { e with pos := some p } a rest.isEmpty with ⟨-, hstep⟩ | ⟨-, -, hstep⟩ | ⟨-, -, hstep⟩
    all_goals have hone := h.engineStep_eq.trans hstep
    · rw [engineSteps_next _ s _ hone, runAccesses_cons_next s _ _ a rest h.engine hstep]
      cases rest with
      | nil => rfl
      | cons b rest =>
        rw [State.access_pos]
        exact ih h.advance
    · rw [engineSteps_next _ s _ hone, runAccesses_cons_next s _ _ a rest h.engine hstep,
        engineSteps_idle _ _ (State.raise_engine ..), runAccesses_idle _ rest (State.raise_engine ..)]
    · rw [engineSteps_fault _ s _ hone, runAccesses_cons_fault s _ a rest _ h.engine hstep]

/-- As many steps as a list of in-bounds accesses, an access being left after it, make exactly these accesses. -/
theorem State.StandsBefore.engineSteps_inBounds {S : List Access} (h : s.StandsBefore i e p (S ++ a :: rest))
    (hS : ∀ b ∈ S, e.inBounds b.x b.y = true) :
    engineSteps S.length s = .next ((s.accessed e S).setEngine (some { e with pos := some (p + S.length) })) := by
  induction S generalizing s p with
  | nil => exact congrArg Host.Outcome.next (State.setEngine_self s _ h.engine).symm
  | cons b S ih =>
    have hb : e.inBounds b.x b.y = true := hS b (by simp)
    have hone : s.engineStep = .next ((s.access e b).advance { e with pos := some p }) := by
      rw [h.engineStep_eq]
      simp [State.accessStep, hb]
    rw [List.length_cons, engineSteps_next _ s _ hone, ih h.advance fun c hc => hS c (by simp [hc]), State.advance,
      State.accessed_setEngine, State.setEngine_setEngine, State.accessed_cons, Nat.add_right_comm, Nat.add_assoc]

end

/-! ### The start step -/

/-- The first step of an accepted command is its start step. -/
theorem engineStep_accepted (s : State) (e : Engine) (i : Instr) (h : s.accepted e) (hi : decode s.cmd = .ok i) :
    s.engineStep = .next (s.startStep e (planOf i s e)) := by
  obtain ⟨he, hpos⟩ := h
  simp only [engineStep_ok s e i he hi, State.performOne, he, hpos]

/-- An accepted command taken whole is its start step and the run of its accesses. -/
theorem exec_accepted (s : State) (e : Engine) (i : Instr) (h : s.accepted e) :
    exec i s = (s.startStep e (planOf i s e)).runAccesses (planOf i s e).accesses := by
  obtain ⟨he, hpos⟩ := h
  rw [exec_eq_perform, perform_start s e _ he hpos]

/-- The start step of a command with accesses stands before access 0, none made. -/
theorem startStep_standsBefore (s : State) (e : Engine) (i : Instr) (q : Bool) (S : List Access) (hne : S ≠ [])
    (hi : decode s.cmd = .ok i) (hplan : planOf i s e = .draw q S) :
    (s.startStep e (.draw q S)).StandsBefore i e 0 S := by
  rw [startStep_draw, if_neg hne]
  exact {
    engine := rfl
    decoded := hi
    left := by rw [planOf_congr i s _ e (by simp) (by simp), hplan, Plan.accesses, List.drop_zero] }

/-- Steps after the start step run the command's accesses, whatever the start step found. -/
theorem engineSteps_startStep (s : State) (e : Engine) (i : Instr) (hi : decode s.cmd = .ok i) :
    engineSteps (planOf i s e).accesses.length (s.startStep e (planOf i s e)) =
      (s.startStep e (planOf i s e)).runAccesses (planOf i s e).accesses := by
  cases hplan : planOf i s e with
  | error | value | table => rfl
  | draw q S =>
    by_cases hne : S = []
    · subst hne; rfl
    · exact (startStep_standsBefore s e i q S hne hi hplan).engineSteps_eq_runAccesses

/-! ### The steps of an accepted command -/

/-- The start step and `n` in-bounds access steps, an access being left: the first `n` accesses and the flag effect. -/
theorem engineSteps_prefix (s : State) (e : Engine) (i : Instr) (q : Bool) (S : List Access) (n : Nat)
    (h : s.accepted e) (hi : decode s.cmd = .ok i) (hplan : planOf i s e = .draw q S) (hn : n < S.length)
    (hS : ∀ a ∈ S.take n, e.inBounds a.x a.y = true) :
    engineSteps (n + 1) s =
      .next (((s.accessed e (S.take n)).flagNotSquare q).setEngine (some { e with pos := some n })) := by
  have hne : S ≠ [] := List.ne_nil_of_length_pos (by omega)
  have hsplit : S = S.take n ++ S[n] :: S.drop (n + 1) := by
    rw [← List.drop_eq_getElem_cons hn, List.take_append_drop]
  have hlen : (S.take n).length = n := List.length_take_of_le hn.le
  have hstart := startStep_standsBefore s e i q S hne hi hplan
  rw [hsplit] at hstart
  have hsteps := hstart.engineSteps_inBounds hS
  rw [← hsplit, hlen, Nat.zero_add] at hsteps
  rw [engineSteps_next n s _ (engineStep_accepted s e i h hi), hplan, hsteps, startStep_draw,
    State.accessed_setEngine, State.accessed_flagNotSquare, State.setEngine_setEngine]

/-- Settles O7: the whole run by induction on the accesses left, each intermediate state by induction on the accesses
made. -/
theorem engineStepsReachCommandEnd : Obligations.EngineStepsReachCommandEnd := by
  intro s e i h hi
  refine ⟨?_, fun q S n hplan hn hS => ?_⟩
  · rw [engineSteps_next _ s _ (engineStep_accepted s e i h hi), engineSteps_startStep s e i hi, exec_accepted s e i h]
  · have hnsq : (s.accessed e (S.take n)).nsq = s.nsq := by rw [State.accessed_frame]
    rw [engineSteps_prefix s e i q S n h hi hplan hn hS, State.flagNotSquare, hnsq]
    rfl

end Sys2Proof.Machine
end

section
/-! PROOFS. The invariant of the machine (spec/10_state.md R21, R24, R33, R36, R37): it holds at reset and every step
keeps it. Its clauses fall in two: those on the registers, the table and the framebuffer, which no operation can break
whatever the engine does, and those on the command that is running. -/

namespace Sys2Proof.Machine

/-! ### Points and framebuffer offsets -/

/-- A point is in bounds when both its coordinates are (spec/41_pixel_surface_signstep.md R142). -/
theorem Engine.inBounds_iff (e : Engine) (x y : Int) :
    e.inBounds x y = true ↔ (0 ≤ x ∧ x < e.w.toNat) ∧ 0 ≤ y ∧ y < e.h.toNat := by
  simp [Engine.inBounds, and_assoc]

/-- An in-bounds point has its offset inside the latched geometry (spec/20_memory.md R74). -/
theorem Engine.offset_lt_area (e : Engine) (x y : Int) (h : e.inBounds x y = true) :
    e.offset x y < e.w.toNat * e.h.toNat := by
  obtain ⟨⟨hx0, hx⟩, hy0, hy⟩ := (e.inBounds_iff x y).1 h
  have hrow : (y + 1) * e.w.toNat ≤ e.h.toNat * e.w.toNat :=
    Int.mul_le_mul_of_nonneg_right (by omega) (Int.natCast_nonneg _)
  have hpos : 0 ≤ y * e.w.toNat := Int.mul_nonneg hy0 (Int.natCast_nonneg _)
  have harea : (e.offset x y : Int) < (e.w.toNat * e.h.toNat : Nat) := by
    rw [Engine.offset, Engine.addr, Int.toNat_of_nonneg (by omega), Nat.mul_comm, Nat.cast_mul]
    rw [Int.add_mul, Int.one_mul] at hrow
    omega
  exact_mod_cast harea

/-- No geometry has more bytes than the framebuffer can have (R30, R74). -/
theorem Engine.area_le_framebufferBytes (e : Engine) : e.w.toNat * e.h.toNat ≤ Config.framebufferBytes :=
  Nat.mul_le_mul (Nat.le_of_lt_succ e.w.isLt) (Nat.le_of_lt_succ e.h.isLt)

/-! ### What plans there are -/

/-- The table that a command builds is TRIG_TABLE, and BUILDTAB builds it (spec/44_circle.md R200). -/
theorem planOf_eq_table (i : Instr) (s : State) (e : Engine) (T : List Word) :
    planOf i s e = .table T ↔ i = .buildtab ∧ T = trigTable := by
  cases i with
  | buildtab => simp [planOf, planBuildtab, eq_comm]
  | tabrd => simp only [planOf, planTabrd]; split_ifs <;> simp
  | circle | circlea => simp only [planOf, planCircle, planCirclea]; split <;> simp
  | fxdiv => simp only [planOf, planFxdiv]; split <;> simp
  | _ => exact ⟨nofun, nofun⟩

/-! ### The clauses that do not mention the engine -/

/-- The clauses of the invariant on the framebuffer, the table and the error registers. -/
structure State.Consistent (s : State) : Prop where
  mem_wf : s.mem.wf
  tab_length : s.tab.length = Config.tableEntries
  tab_valid : s.tv = true → s.tab = trigTable
  code_iff : s.errcode = 0 ↔ s.err = false
  code_le : s.errcode.toNat ≤ 5

theorem trigTable_length : trigTable.length = Config.tableEntries := by simp [trigTable]

/-- Every error has one of the codes 1 to 5 (spec/60_exceptions.md R241). -/
theorem ErrCode.code_range (k : ErrCode) : k.code ≠ 0 ∧ k.code.toNat ≤ 5 := by cases k <;> decide

section
variable {s : State} (h : s.Consistent)
include h

theorem State.Consistent.setEngine (g : Option Engine) : (s.setEngine g).Consistent := { h with }

theorem State.Consistent.setResult (v : Word) : (s.setResult v).Consistent := { h with }

theorem State.Consistent.flagNotSquare (q : Bool) : (s.flagNotSquare q).Consistent := { h with }

theorem State.Consistent.done : s.done.Consistent := h.setEngine none

theorem State.Consistent.setTable (T : List Word) (hT : T = trigTable) : (s.setTable T).Consistent :=
  { h with
    tab_length := by rw [State.setTable_tab, hT, trigTable_length]
    tab_valid := fun _ => hT }

theorem State.Consistent.raise (k : ErrCode) (x y : Int) : (s.raise k x y).Consistent :=
  { h with
    code_iff := by simpa using k.code_range.1
    code_le := k.code_range.2 }

theorem State.Consistent.writeByte (o : Nat) (v : Byte) (ho : o < Config.framebufferBytes) :
    (s.writeByte o v).Consistent :=
  { h with mem_wf := Memory.write_wf s.mem o v h.mem_wf ho }

theorem State.Consistent.access (e : Engine) (a : Access) (ha : e.inBounds a.x a.y = true) :
    (s.access e a).Consistent := by
  cases a with
  | plot x y c => exact h.writeByte _ c ((e.offset_lt_area x y ha).trans_le e.area_le_framebufferBytes)
  | fetch x y => exact h.setResult _

/-- Bit 1 clears ERR and ERRCODE together (R26). -/
theorem State.Consistent.writeStatus (v : Word) : (s.writeStatus v).Consistent := by
  refine { h with code_iff := ?code_iff, code_le := ?code_le }
  all_goals
    simp only [State.writeStatus]
    cases v.getLsbD 1
  case code_iff.false => simpa using h.code_iff
  case code_le.false => exact h.code_le
  case code_iff.true => simp
  case code_le.true => exact Nat.zero_le 5

theorem State.Consistent.startStep (e : Engine) (i : Instr) : (s.startStep e (planOf i s e)).Consistent := by
  cases hplan : planOf i s e with
  | error k => exact h.raise k 0 0
  | value v => exact (h.setResult v).done
  | table T => exact (h.setTable T ((planOf_eq_table i s e T).1 hplan).2).done
  | draw q S =>
    rw [startStep_draw]
    exact (h.flagNotSquare q).setEngine _

theorem State.Consistent.runAccesses (S : List Access) (t : State) (hrun : s.runAccesses S = .next t) :
    t.Consistent :=
  runAccesses_keeps State.Consistent (fun _ e a _ ha hc => hc.access e a ha) (fun _ _ hc => hc.setEngine _)
    (fun _ hc => hc.done) (fun _ x y hc => hc.raise .oob x y) S s t h hrun

end

/-! ### The clauses on the running command -/

/-- The clauses of the invariant on a command that runs on what `e` latched. -/
structure State.Runs (s : State) (e : Engine) : Prop where
  no_error : s.err = false
  latched : e = { s.latch with pos := e.pos }
  position : ∀ p, e.pos = some p → ∃ i, decode s.cmd = .ok i ∧ p < (planOf i s e).accesses.length

/-- A running command sees of the state CMD, the operands, the geometry and the table only (R21, R37). -/
theorem State.Runs.congr {s t : State} {e : Engine} (h : s.Runs e) (herr : t.err = false)
    (hlatch : t.latch = s.latch) (hcmd : t.cmd = s.cmd) (htv : t.tv = s.tv) (htab : t.tab = s.tab) : t.Runs e where
  no_error := herr
  latched := hlatch ▸ h.latched
  position p hp := by
    obtain ⟨i, hi, hlt⟩ := h.position p hp
    exact ⟨i, hcmd ▸ hi, by rwa [planOf_congr i s t e htv htab]⟩

/-- A running command moved to another of its accesses. -/
theorem State.Runs.moved {s : State} {e : Engine} (h : s.Runs e) (i : Instr) (hi : decode s.cmd = .ok i) (p : Nat)
    (hp : p < (planOf i s e).accesses.length) : s.Runs { e with pos := some p } where
  no_error := h.no_error
  latched := by rw [h.latched]
  position q hq := by
    cases hq
    exact ⟨i, hi, by rwa [planOf_pos]⟩

theorem State.inv_iff (s : State) : s.Inv ↔ s.Consistent ∧ ∀ e, s.engine = some e → s.Runs e where
  mp h := ⟨{ h with }, fun e he => {
    no_error := h.busy_no_error e he
    latched := h.latched e he
    position := fun p hp => h.position e p he hp }⟩
  mpr h := { h.1 with
    busy_no_error := fun e he => (h.2 e he).no_error
    latched := fun e he => (h.2 e he).latched
    position := fun e p he hp => (h.2 e he).position p hp }

theorem State.Inv.consistent {s : State} (h : s.Inv) : s.Consistent := (s.inv_iff.1 h).1

theorem State.Inv.runs {s : State} (h : s.Inv) {e : Engine} (he : s.engine = some e) : s.Runs e :=
  (s.inv_iff.1 h).2 e he

/-- Of an idle block only the first group of clauses says anything. -/
theorem State.Consistent.inv_of_idle {s : State} (h : s.Consistent) (hidle : s.engine = none) : s.Inv :=
  s.inv_iff.2 ⟨h, fun e he => by simp [hidle] at he⟩

theorem State.Consistent.inv_of_runs {s : State} {e : Engine} (h : s.Consistent) (he : s.engine = some e)
    (hruns : s.Runs e) : s.Inv :=
  s.inv_iff.2 ⟨h, fun _ he' => Option.some.inj (he.symm.trans he') ▸ hruns⟩

/-- Whatever leaves the running command its working state, and the registers that it sees, keeps the invariant. -/
theorem State.Inv.beside {s t : State} (h : s.Inv) (hc : t.Consistent) (hengine : t.engine = s.engine)
    (herr : s.err = false → t.err = false) (hlatch : t.latch = s.latch) (hcmd : t.cmd = s.cmd) (htv : t.tv = s.tv)
    (htab : t.tab = s.tab) : t.Inv := by
  refine t.inv_iff.2 ⟨hc, fun e he => ?_⟩
  have hruns := h.runs (hengine ▸ he)
  exact hruns.congr (herr hruns.no_error) hlatch hcmd htv htab

/-! ### The moves of the outside agents (spec/00_scope.md R14) -/

section
variable {s : State} (h : s.Inv)
include h

theorem State.Inv.popped (rest : List Action) : (s.popped rest).Inv :=
  h.beside { h.consistent with } rfl id rfl rfl rfl rfl

theorem State.Inv.see (v : Word) : (s.see v).Inv := h.beside { h.consistent with } rfl id rfl rfl rfl rfl

theorem State.Inv.writeByte (o : Nat) (v : Byte) (ho : o < Config.framebufferBytes) : (s.writeByte o v).Inv :=
  h.beside (h.consistent.writeByte o v ho) rfl id rfl rfl rfl rfl

theorem State.Inv.hostWrite (off : Nat) (v : Word) : (s.hostWrite off v).Inv := by
  rcases hostWrite_cases s off v with
    heq | ⟨-, heq⟩ | heq | ⟨hidle, herr, heq⟩ | ⟨hidle, b0, b1, b2, b3, w, g, heq⟩ <;> rw [heq]
  · exact h
  · exact h.beside { h.consistent with } rfl id rfl rfl rfl rfl
  · exact h.beside (h.consistent.writeStatus v) rfl (fun herr => by simp [State.writeStatus, herr]) rfl rfl rfl rfl
  · have hstart : (s.start v).Consistent := { h.consistent with }
    exact hstart.inv_of_runs rfl { no_error := herr, latched := rfl, position := nofun }
  · exact State.Consistent.inv_of_idle { h.consistent with } hidle

end

theorem reset_consistent : State.reset.Consistent where
  mem_wf := ⟨.nil, nofun⟩
  tab_length := List.length_replicate
  tab_valid := nofun
  code_iff := ⟨fun _ => rfl, fun _ => rfl⟩
  code_le := Nat.zero_le 5

/-- Settles O11: the block is idle at reset. -/
theorem resetMeetsInvariant : Obligations.ResetMeetsInvariant :=
  reset_consistent.inv_of_idle rfl

/-- The reset event leaves the framebuffer's form to the framebuffer (spec/70_reset_and_hazards.md R270). -/
theorem State.Inv.resetEvent {s : State} (h : s.Inv) : s.resetEvent.Inv :=
  State.Consistent.inv_of_idle { reset_consistent with mem_wf := h.mem_wf } rfl

/-! ### The running command taken whole (R14) -/

/-- The run of the accesses that are left, one at least, ends with the command done or in error (R38). -/
theorem runAccesses_ends_idle (S : List Access) (s t : State) (h : s.engine = none ∨ S ≠ [])
    (hrun : s.runAccesses S = .next t) : t.engine = none := by
  induction S generalizing s with
  | nil => cases hrun; simpa using h
  | cons a rest ih =>
    cases he : s.engine with
    | none => rw [runAccesses_idle s _ he] at hrun; cases hrun; exact he
    | some e =>
      rcases accessStep_cases s e a rest.isEmpty with ⟨-, hstep⟩ | ⟨-, -, hstep⟩ | ⟨-, -, hstep⟩
      · rw [runAccesses_cons_next s _ e a rest he hstep] at hrun
        refine ih _ ?_ hrun
        cases rest with
        | nil => exact .inl rfl
        | cons => exact .inr (by simp)
      · rw [runAccesses_cons_next s _ e a rest he hstep] at hrun
        exact ih _ (.inl rfl) hrun
      · rw [runAccesses_cons_fault s e a rest _ he hstep] at hrun
        cases hrun

/-- After its start step a command is finished, or has an access to make (R37). -/
theorem startStep_idle_or_accesses (s : State) (e : Engine) (plan : Plan) :
    (s.startStep e plan).engine = none ∨ plan.accesses ≠ [] := by
  cases plan with
  | error | value | table => exact .inl rfl
  | draw q S =>
    by_cases hS : S = []
    · subst hS; exact .inl rfl
    · exact .inr hS

/-- From a state with the invariant the running command, taken whole, leaves the block idle. -/
theorem exec_keeps_inv (s t : State) (i : Instr) (h : s.Inv) (hi : decode s.cmd = .ok i) (hrun : exec i s = .next t) :
    t.Inv := by
  rw [exec_eq_perform] at hrun
  cases he : s.engine with
  | none => rw [perform_idle s _ he] at hrun; cases hrun; exact h
  | some e =>
    cases hpos : e.pos with
    | none =>
      rw [perform_start s e _ he hpos] at hrun
      exact ((h.consistent.startStep e i).runAccesses _ t hrun).inv_of_idle
        (runAccesses_ends_idle _ _ t (startStep_idle_or_accesses s e _) hrun)
    | some p =>
      obtain ⟨j, hj, hlt⟩ := (h.runs he).position p hpos
      obtain rfl : i = j := Decoded.ok.inj (hi.symm.trans hj)
      have hleft : (planOf i s e).accesses.drop p ≠ [] := by simpa using hlt
      simp only [State.perform, he, hpos] at hrun
      exact (h.consistent.runAccesses _ t hrun).inv_of_idle (runAccesses_ends_idle _ _ t (.inr hleft) hrun)

theorem State.Inv.runCommand {s t : State} (h : s.Inv) (hrun : s.runCommand = .next t) : t.Inv := by
  cases he : s.engine with
  | none => rw [runCommand_idle s he] at hrun; cases hrun; exact h
  | some e =>
    cases hi : decode s.cmd with
    | ok i => exact exec_keeps_inv s t i h hi (runCommand_ok s e i he hi ▸ hrun)
    | illegal why =>
      rw [runCommand_illegal s e why he hi] at hrun
      cases hrun
      exact (h.consistent.raise .illegal 0 0).inv_of_idle rfl

theorem State.Inv.waitIdle {s t : State} (h : s.Inv) (hrun : s.waitIdle = .next t) : t.Inv := by
  unfold State.waitIdle at hrun
  split at hrun
  · next u hu => cases hrun; exact (h.runCommand hu).see _
  · cases hrun
  · cases hrun

/-! ### One engine step (R37) -/

theorem State.Inv.startStep {s : State} {e : Engine} {i : Instr} (h : s.Inv) (he : s.engine = some e)
    (hi : decode s.cmd = .ok i) : (s.startStep e (planOf i s e)).Inv := by
  have hc := h.consistent.startStep e i
  rcases startStep_idle_or_accesses s e (planOf i s e) with hidle | hne
  · exact hc.inv_of_idle hidle
  · cases hplan : planOf i s e with
    | error | value | table => simp [hplan, Plan.accesses] at hne
    | draw q S =>
      simp only [hplan, Plan.accesses] at hc hne
      rw [startStep_draw, if_neg hne] at hc ⊢
      have hmoved := (h.runs he).moved i hi 0 (by simpa [hplan, Plan.accesses] using List.length_pos_iff.2 hne)
      exact hc.inv_of_runs rfl (hmoved.congr hmoved.no_error rfl rfl rfl rfl)

theorem State.Inv.accessStep {s t : State} {e : Engine} {i : Instr} {p : Nat} {a : Access} (h : s.Inv)
    (he : s.engine = some e) (hi : decode s.cmd = .ok i) (hpos : e.pos = some p)
    (hstep : s.accessStep e a ((planOf i s e).accesses.drop (p + 1)).isEmpty = .next t) : t.Inv := by
  rcases accessStep_cases s e a ((planOf i s e).accesses.drop (p + 1)).isEmpty with
    ⟨ha, heq⟩ | ⟨-, -, heq⟩ | ⟨-, -, heq⟩ <;> rw [heq] at hstep <;> cases hstep
  · have hc := h.consistent.access e a ha
    split
    · exact hc.done.inv_of_idle rfl
    · next hleft =>
      have hlt : p + 1 < (planOf i s e).accesses.length := by simpa using hleft
      have hmoved := (h.runs he).moved i hi (p + 1) hlt
      refine (hc.setEngine _).inv_of_runs (by rw [State.setEngine_engine, hpos, Option.map_some]) ?_
      exact hmoved.congr (by simpa using hmoved.no_error) (by simp [State.latch]) (by simp) (by simp) (by simp)
  · exact (h.consistent.raise .oob a.x a.y).inv_of_idle rfl

theorem State.Inv.engineStep {s t : State} (h : s.Inv) (hstep : s.engineStep = .next t) : t.Inv := by
  cases he : s.engine with
  | none => rw [engineStep_idle s he] at hstep; cases hstep; exact h
  | some e =>
    cases hi : decode s.cmd with
    | ok i =>
      rw [engineStep_ok s e i he hi] at hstep
      rcases performOne_cases s e (planOf i) he with ⟨-, heq⟩ | ⟨p, -, -, heq⟩ | ⟨p, a, hpos, -, heq⟩ <;>
        rw [heq] at hstep
      · cases hstep; exact h.startStep he hi
      · cases hstep; exact h
      · exact h.accessStep he hi hpos hstep
    | illegal why =>
      rw [engineStep_illegal s e why he hi] at hstep
      cases hstep
      exact (h.consistent.raise .illegal 0 0).inv_of_idle rfl

/-! ### Every step -/

theorem State.Inv.act {s t : State} (h : s.Inv) (a : Action) (hact : s.act a = .next t) : t.Inv := by
  cases a with
  | write off v => cases hact; exact h.hostWrite off v
  | read off => cases hact; exact h.see _
  | wait => exact h.waitIdle hact
  | engine => exact h.engineStep hact
  | reset => cases hact; exact h.resetEvent
  | otherWrite off v =>
    simp only [State.act] at hact
    split at hact
    · next ho => cases hact; exact h.writeByte off v ho
    · cases hact
  | otherRead off =>
    simp only [State.act] at hact
    split at hact
    · cases hact; exact h.see _
    · cases hact
  | narrow off => cases hact

/-- Settles O10: a step is the running command taken whole or one move, and each keeps the invariant. -/
theorem stepKeepsInvariant : Obligations.StepKeepsInvariant := by
  intro s t h hstep
  unfold step at hstep
  split at hstep
  · exact h.runCommand hstep
  · exact (h.popped _).act _ hstep

end Sys2Proof.Machine
end

section
/-! PROOFS. The host's accesses and reset (spec/10_state.md R22 to R39): one lemma for each thing a write or a read of a
register does, and the words the registers read as, field by field. -/

namespace Sys2Proof.Machine

/-! ### The words registers read as -/

/-- The fields of STATUS at their bits, the reserved bits 0 (R24). -/
theorem statusWord_fields (s : State) :
    s.statusWord.getLsbD 0 = s.engine.isSome ∧ s.statusWord.getLsbD 1 = s.err ∧ s.statusWord.getLsbD 2 = s.ovr ∧
      s.statusWord.getLsbD 3 = s.tv ∧ s.statusWord.getLsbD 4 = s.nsq ∧ s.statusWord.extractLsb' 5 3 = 0 ∧
      s.statusWord.extractLsb' 8 4 = s.errcode ∧ s.statusWord.extractLsb' 12 20 = 0 := by
  refine ⟨?busy, ?err, ?ovr, ?tv, ?nsq, ?low, ?code, ?high⟩
  case low | code | high =>
    apply BitVec.eq_of_getLsbD_eq
    intro i hi
    simp only [State.statusWord, BitVec.getLsbD_extractLsb', BitVec.getLsbD_append, Nat.add_comm _ i]
    simp [hi]
  all_goals
    simp only [State.statusWord, BitVec.getLsbD_append]
    simp [State.busy]

/-- The fields of GEOM at their bits (R30). -/
theorem geomWord_fields (s : State) :
    (s.readReg .geom).extractLsb' 0 16 = s.width ∧ (s.readReg .geom).extractLsb' 16 16 = s.height := by
  exact ⟨BitVec.extractLsb'_append_eq_right, BitVec.extractLsb'_append_eq_left⟩

/-- The constant ID (R31). -/
theorem idWord_eq (s : State) : s.idWord = if s.bchk then 1 else 0 := by
  unfold State.idWord
  cases s.bchk <;> rfl

/-- Settles O24: the 16 bits keep their sign when they are extended to 32. -/
theorem coordIsSignedLowHalf : Obligations.CoordIsSignedLowHalf := by
  intro v
  have heq : coord v = (v.extractLsb' 0 16).toInt := BitVec.toInt_signExtend_of_le (by decide)
  have hlo := BitVec.le_toInt (v.extractLsb' 0 16)
  have hhi := BitVec.toInt_lt (x := v.extractLsb' 0 16)
  refine ⟨heq, ?_, ?_⟩ <;> rw [heq] <;> omega

/-! ### One access of the host -/

@[simp] theorem hostWrite_offset (s : State) (r : Reg) (v : Word) : s.hostWrite r.offset v = s.writeReg r v := by
  rw [State.hostWrite, Reg.ofOffset_offset]

theorem step_writeReg (s : State) (rest : List Action) (r : Reg) (v : Word) (h : s.script = .write r.offset v :: rest) :
    step s = .next ((s.popped rest).writeReg r v) := by rw [step_write s rest r.offset v h, hostWrite_offset]

/-- No register stands at an offset from 0x2C up or at one that is not a multiple of 4 (R32). -/
theorem Reg.ofOffset_eq_none (off : Nat) (h : off ≥ 0x2C ∨ off % 4 ≠ 0) : Reg.ofOffset off = none := by
  cases hr : Reg.ofOffset off with
  | none => rfl
  | some r =>
    obtain rfl := Reg.offset_of_ofOffset off r hr
    cases r <;> simp [Reg.offset] at h

/-- At such an offset a read gives 0 (R32). -/
theorem hostRead_unmapped (s : State) (off : Nat) (h : off ≥ 0x2C ∨ off % 4 ≠ 0) : s.hostRead off = 0 := by
  rw [State.hostRead, Reg.ofOffset_eq_none off h]

/-- At such an offset a write is ignored (R32). -/
theorem hostWrite_unmapped (s : State) (off : Nat) (v : Word) (h : off ≥ 0x2C ∨ off % 4 ≠ 0) :
    s.hostWrite off v = s := by rw [State.hostWrite, Reg.ofOffset_eq_none off h]

/-! ### Writes of the operands and the geometry (R35) -/

section
variable (s : State) (r : Reg) (v : Word)

theorem readReg_writeReg_same (hr : r ∈ [Reg.a0, .a1, .a2, .a3, .geom]) (hidle : s.engine = none) :
    (s.writeReg r v).readReg r = v := by
  have hbusy : s.busy = false := s.busy_eq_false.2 hidle
  simp only [List.mem_cons, List.not_mem_nil, or_false] at hr
  rcases hr with rfl | rfl | rfl | rfl | rfl <;>
    simp only [State.writeReg, State.readReg, hbusy, Bool.false_eq_true, if_false]
  exact BitVec.extractLsb'_append_extractLsb'

theorem readReg_writeReg_other (r' : Reg) (hr : r ∈ [Reg.a0, .a1, .a2, .a3, .geom]) (hidle : s.engine = none)
    (hne : r' ≠ r) : (s.writeReg r v).readReg r' = s.readReg r' := by
  have hbusy : s.busy = false := s.busy_eq_false.2 hidle
  simp only [List.mem_cons, List.not_mem_nil, or_false] at hr
  rcases hr with rfl | rfl | rfl | rfl | rfl <;>
    simp only [State.writeReg, hbusy, Bool.false_eq_true, if_false]
  all_goals
    cases r' with
    | status | cmd | result | errx | erry | id => rfl
    | a0 | a1 | a2 | a3 | geom => simp [State.readReg] at hne ⊢

/-- No write of these registers starts a command or ends one. -/
theorem writeReg_operand_engine (hr : r ∈ [Reg.a0, .a1, .a2, .a3, .geom]) : (s.writeReg r v).engine = s.engine := by
  simp only [List.mem_cons, List.not_mem_nil, or_false] at hr
  rcases hr with rfl | rfl | rfl | rfl | rfl <;> simp only [State.writeReg] <;> split <;> rfl

/-- While a command runs these registers and CMD cannot be written (R21, R36). -/
theorem writeReg_busy (hr : r ∈ [Reg.a0, .a1, .a2, .a3, .geom, .cmd]) (hbusy : s.busy = true) :
    s.writeReg r v = s.dropped := by
  simp only [List.mem_cons, List.not_mem_nil, or_false] at hr
  rcases hr with rfl | rfl | rfl | rfl | rfl | rfl <;> simp [State.writeReg, State.writeCmd, hbusy]

end

/-- Settles O14: of the registers only the written one reads otherwise, and a write of it is no CMD write. -/
theorem operandWriteAccepted : Obligations.OperandWriteAccepted := by
  intro s rest r v hr hidle hscript
  obtain ⟨hmem, htab, -, -, -, hscr, hseen⟩ := hostWrite_frame (s.popped rest) r.offset v
  rw [hostWrite_offset] at hmem htab hscr hseen
  exact ⟨(s.popped rest).writeReg r v, step_writeReg s rest r v hscript, readReg_writeReg_same _ r v hr hidle,
    fun r' hne => readReg_writeReg_other (s.popped rest) r v r' hr hidle hne,
    (writeReg_operand_engine _ r v hr).trans hidle, htab, hmem, hscr, hseen⟩

/-- Settles O15: each of these writes is a dropped one. -/
theorem writeWhileBusyDropped : Obligations.WriteWhileBusyDropped := by
  intro s e rest r v hr he hscript
  rw [step_writeReg s rest r v hscript, writeReg_busy (s.popped rest) r v hr ((State.busy_eq_true _).2 ⟨e, he⟩)]
  rfl

/-! ### Writes of CMD and STATUS (R26, R36), and writes without effect (R32) -/

theorem writeCmd_dropped (s : State) (v : Word) (h : s.engine ≠ none ∨ s.err = true) : s.writeCmd v = s.dropped := by
  rcases writeCmd_cases s v with ⟨-, heq⟩ | ⟨hidle, herr, -⟩
  · exact heq
  · simp [hidle, herr] at h

theorem writeCmd_accepted (s : State) (v : Word) (hidle : s.engine = none) (herr : s.err = false) :
    s.writeCmd v = s.start v := by
  rcases writeCmd_cases s v with ⟨h, -⟩ | ⟨-, -, heq⟩
  · simp [hidle, herr] at h
  · exact heq

/-- Settles O16: the two outcomes of a CMD write. -/
theorem cmdWriteStartsCommand : Obligations.CmdWriteStartsCommand := by
  intro s rest v hscript
  have hstep : step s = .next ((s.popped rest).writeCmd v) := step_writeReg s rest .cmd v hscript
  refine ⟨fun h => ?_, fun ⟨hidle, herr⟩ => ?_⟩
  · rw [hstep, writeCmd_dropped (s.popped rest) v h]; rfl
  · rw [hstep, writeCmd_accepted (s.popped rest) v hidle herr]; rfl

/-- What a STATUS write leaves of ERR and ERRCODE, by bit 1 of the written word (R26). -/
theorem writeStatus_error (s : State) (v : Word) :
    (v.getLsbD 1 = true → (s.writeStatus v).err = false ∧ (s.writeStatus v).errcode = 0) ∧
      (v.getLsbD 1 = false → (s.writeStatus v).err = s.err ∧ (s.writeStatus v).errcode = s.errcode) := by
  constructor <;> intro hbit <;> simp only [State.writeStatus, hbit] <;> simp

/-- Settles O17: bit 1 is `writeStatus_error`, bits 2 and 4 are what the operation says. -/
theorem statusWriteClears : Obligations.StatusWriteClears := by
  intro s rest v hscript
  obtain ⟨hclear, hkeep⟩ := writeStatus_error (s.popped rest) v
  exact ⟨(s.popped rest).writeStatus v, step_writeReg s rest .status v hscript, rfl, hclear, hkeep, rfl, rfl⟩

/-- Settles O18: the four read-only registers one by one, then the offsets with no register. -/
theorem readOnlyAndUnmappedWritesIgnored : Obligations.ReadOnlyAndUnmappedWritesIgnored := by
  intro s rest off v hscript hoff
  rw [step_write s rest off v hscript]
  rcases hoff with hreadOnly | hunmapped
  · simp only [List.mem_cons, List.not_mem_nil, or_false] at hreadOnly
    rcases hreadOnly with rfl | rfl | rfl | rfl <;> rfl
  · rw [hostWrite_unmapped _ off v hunmapped]; rfl

/-- Settles O19: the word is the register's, and the words with fields are taken apart by the lemmas on them. -/
theorem hostReadReturnsRegister : Obligations.HostReadReturnsRegister := by
  intro s rest off hscript
  refine ⟨(s.popped rest).hostRead off, step_read s rest off hscript, ?_⟩
  refine ⟨?cmd, ?status, ?a0, ?a1, ?a2, ?a3, ?result, ?errx, ?erry, ?geom, ?id, hostRead_unmapped _ off⟩
  case status => rintro rfl; exact statusWord_fields (s.popped rest)
  case geom => rintro rfl; exact geomWord_fields (s.popped rest)
  case id => rintro rfl; exact idWord_eq (s.popped rest)
  all_goals rintro rfl; rfl

/-! ### Reset (R39) -/

/-- Settles O12: every register by evaluation, ID by its one open bit, a byte that nobody wrote by the platform's. -/
theorem resetStateValues : Obligations.ResetStateValues :=
  ⟨rfl, rfl, rfl, rfl, rfl, rfl, rfl, rfl, rfl, rfl, idWord_eq State.reset, rfl, fun _ => rfl⟩

/-! ### A step with a command running (R37) -/

/-- Settles O6: what each of the three moves does with the state whose script has been taken on. -/
theorem stepRunsDecodedCommand : Obligations.StepRunsDecodedCommand := by
  intro s e i rest he hi
  refine ⟨fun h => ?_, fun h => ?_, fun h => ?_⟩
  · rw [step_command s h, runCommand_ok s e i he hi]
  · rw [step_wait s rest h, State.waitIdle, runCommand_ok (s.popped rest) e i he hi]
    rfl
  · rw [step_engine s rest h]
    exact engineStep_ok (s.popped rest) e i he hi

end Sys2Proof.Machine
end

section
/-! PROOFS. What commands leave unchanged (spec/10_state.md R21, R25, R28; spec/60_exceptions.md R245): the registers
that no command writes, and the few commands that write RESULT, the table, TV and NSQ. -/

namespace Sys2Proof.Machine

/-! ### What no command writes -/

/-- The part of the state that is an input of every command or no concern of it: the operands, CMD, GEOM, OVR, ID and
the agents outside. -/
def State.inputs (s : State) :
    (Word × Word × Word × Word) × Word × (BitVec 16 × BitVec 16) × Bool × Bool × List Action × List Word :=
  ((s.a0, s.a1, s.a2, s.a3), s.cmd, (s.width, s.height), s.ovr, s.bchk, s.script, s.seen)

theorem State.inputs_eq_iff (s t : State) :
    t.inputs = s.inputs ↔
      t.a0 = s.a0 ∧ t.a1 = s.a1 ∧ t.a2 = s.a2 ∧ t.a3 = s.a3 ∧ t.cmd = s.cmd ∧ t.width = s.width ∧
        t.height = s.height ∧ t.ovr = s.ovr ∧ t.bchk = s.bchk ∧ t.script = s.script ∧ t.seen = s.seen := by
  simp only [State.inputs, Prod.mk.injEq, and_assoc]

@[simp] theorem State.access_inputs (s : State) (e : Engine) (a : Access) : (s.access e a).inputs = s.inputs := by
  cases a <;> rfl

@[simp] theorem startStep_inputs (s : State) (e : Engine) (plan : Plan) : (s.startStep e plan).inputs = s.inputs := by
  cases plan with
  | error | value | table => rfl
  | draw q S => rw [startStep_draw]; rfl

theorem runAccesses_inputs (S : List Access) (s t : State) (hrun : s.runAccesses S = .next t) : t.inputs = s.inputs :=
  runAccesses_keeps (fun u => u.inputs = s.inputs) (fun u e a _ _ hu => (u.access_inputs e a).trans hu)
    (fun _ _ hu => hu) (fun _ hu => hu) (fun _ _ _ hu => hu) S s t rfl hrun

/-- The frame of a command, from wherever the engine stands. -/
theorem perform_inputs (s t : State) (plan : State → Engine → Plan) (hrun : s.perform plan = .next t) :
    t.inputs = s.inputs := by
  unfold State.perform at hrun
  split at hrun
  · cases hrun; rfl
  · split at hrun
    · exact (runAccesses_inputs _ _ t hrun).trans (startStep_inputs ..)
    · exact runAccesses_inputs _ s t hrun

/-- Settles O57: every operation of the engine leaves the inputs. -/
theorem commandFrame : Obligations.CommandFrame := by
  intro i s t hrun
  rw [exec_eq_perform] at hrun
  exact (s.inputs_eq_iff t).1 (perform_inputs s t _ hrun)

/-! ### TV, the table and NSQ: the start step's alone -/

/-- The registers that a command can set in its start step only (R25, R33). -/
def State.startRegs (s : State) : Bool × List Word × Bool := (s.tv, s.tab, s.nsq)

theorem runAccesses_startRegs (S : List Access) (s t : State) (hrun : s.runAccesses S = .next t) :
    t.startRegs = s.startRegs :=
  runAccesses_keeps (fun u => u.startRegs = s.startRegs)
    (fun u e a _ _ hu => by simpa [State.startRegs] using hu)
    (fun _ _ hu => hu) (fun _ hu => hu) (fun _ _ _ hu => hu) S s t rfl hrun

theorem exec_startRegs (s t : State) (e : Engine) (i : Instr) (h : s.accepted e) (hrun : exec i s = .next t) :
    t.startRegs = (s.startStep e (planOf i s e)).startRegs := by
  rw [exec_accepted s e i h] at hrun
  exact runAccesses_startRegs _ _ t hrun

/-- The flag effect of a plan, where it has one (spec/44_circle.md R211). -/
def Plan.notSquare : Plan → Bool
  | .draw q _ => q
  | _ => false

theorem startStep_nsq (s : State) (e : Engine) (plan : Plan) :
    (s.startStep e plan).nsq = (s.nsq || plan.notSquare) := by
  cases plan with
  | error | value | table => simp [Plan.notSquare]
  | draw q S => simp [startStep_draw, Plan.notSquare]

/-- CIRCLEA is the only command with a flag effect (R25). -/
theorem planOf_notSquare (i : Instr) (s : State) (e : Engine) :
    (planOf i s e).notSquare =
      (i.mnemonic == "CIRCLEA" && s.tv && decide (e.c2 - e.c0 ≠ e.c3 - e.c1)) := by
  cases i with
  | circlea c => simp only [planOf, planCirclea]; cases s.tv <;> simp [Plan.notSquare, Instr.mnemonic]
  | tabrd => simp only [planOf, planTabrd]; split_ifs <;> rfl
  | circle c => simp only [planOf, planCircle]; split <;> rfl
  | fxdiv => simp only [planOf, planFxdiv]; split <;> rfl
  | _ => rfl

/-- A start step that builds no table leaves the one there is. -/
theorem startStep_table_of_ne (s : State) (e : Engine) (plan : Plan) (h : ∀ T, plan ≠ .table T) :
    (s.startStep e plan).tv = s.tv ∧ (s.startStep e plan).tab = s.tab := by
  cases plan with
  | error | value => exact ⟨rfl, rfl⟩
  | table T => exact absurd rfl (h T)
  | draw q S => simp [startStep_draw]

theorem exec_tv_tab (s t : State) (e : Engine) (i : Instr) (h : s.accepted e) (hrun : exec i s = .next t) :
    t.tv = (s.tv || decide (i = .buildtab)) ∧ t.tab = if i = .buildtab then trigTable else s.tab := by
  have hregs := exec_startRegs s t e i h hrun
  simp only [State.startRegs, Prod.mk.injEq] at hregs
  obtain ⟨htv, htab, -⟩ := hregs
  by_cases hi : i = .buildtab
  · have hplan := (planOf_eq_table i s e trigTable).2 ⟨hi, rfl⟩
    rw [htv, htab, hplan, startStep_table, State.done_tv, State.done_tab, State.setTable_tv, State.setTable_tab]
    simp [hi]
  · obtain ⟨htv', htab'⟩ :=
      startStep_table_of_ne s e (planOf i s e) fun T hT => hi ((planOf_eq_table i s e T).1 hT).1
    simp [htv, htab, htv', htab', hi]

theorem exec_nsq (s t : State) (e : Engine) (i : Instr) (h : s.accepted e) (hrun : exec i s = .next t) :
    t.nsq = (s.nsq || (i.mnemonic == "CIRCLEA" && s.tv && decide (e.c2 - e.c0 ≠ e.c3 - e.c1))) := by
  have hregs := exec_startRegs s t e i h hrun
  simp only [State.startRegs, Prod.mk.injEq] at hregs
  rw [hregs.2.2, startStep_nsq, planOf_notSquare]

/-! ### RESULT: the commands that return a value -/

/-- A list of writes only (spec/41_pixel_surface_signstep.md R143). -/
def Plots (S : List Access) : Prop := ∀ a ∈ S, ∃ x y c, a = .plot x y c

@[simp] theorem plots_nil : Plots [] := nofun

@[simp] theorem plots_cons (x y : Int) (c : Byte) (S : List Access) : Plots (.plot x y c :: S) ↔ Plots S := by
  simp [Plots]

@[simp] theorem plots_append (S T : List Access) : Plots (S ++ T) ↔ Plots S ∧ Plots T := List.forall_mem_append

theorem vlineLoop_plots (x y s : Int) (c : Byte) (n : Nat) (i : Int) : Plots (vlineLoop x y s c n i) := by
  induction n generalizing i with
  | zero => simp [vlineLoop]
  | succ n ih => simp [vlineLoop, ih]

theorem hlineLoop_plots (x y s : Int) (c : Byte) (n : Nat) (i : Int) : Plots (hlineLoop x y s c n i) := by
  induction n generalizing i with
  | zero => simp [hlineLoop]
  | succ n ih => simp [hlineLoop, ih]

theorem blineRun_plots (M m sx sy : Int) (c : Byte) (n : Nat) (x y err : Int) :
    Plots (blineRun M m sx sy c n x y err) := by
  induction n generalizing x y err with
  | zero => simp [blineRun]
  | succ n ih => rw [blineRun]; split <;> simp [ih]

theorem blineRise_plots (m M sx sy : Int) (c : Byte) (n : Nat) (x y err : Int) :
    Plots (blineRise m M sx sy c n x y err) := by
  induction n generalizing x y err with
  | zero => simp [blineRise]
  | succ n ih => rw [blineRise]; split <;> simp [ih]

@[simp] theorem vline_plots (x y d : Int) (c : Byte) : Plots (vline x y d c) := by simp [vline, vlineLoop_plots]

@[simp] theorem hline_plots (x y d : Int) (c : Byte) : Plots (hline x y d c) := by simp [hline, hlineLoop_plots]

@[simp] theorem bline_plots (x y dx dy : Int) (c : Byte) : Plots (bline x y dx dy c) := by
  rw [bline]; split <;> simp [blineRun_plots, blineRise_plots]

@[simp] theorem rectOutline_plots (x y run rise : Int) (c : Byte) : Plots (rectOutline x y run rise c) := by
  simp [rectOutline]

theorem fillLoop_plots (x y rise s : Int) (c : Byte) (n : Nat) (i : Int) : Plots (fillLoop x y rise s c n i) := by
  induction n generalizing i with
  | zero => simp [fillLoop]
  | succ n ih => simp [fillLoop, ih]

@[simp] theorem fillRect_plots (x y run rise : Int) (c : Byte) : Plots (fillRect x y run rise c) := by
  simp [fillRect, fillLoop_plots]

@[simp] theorem outlinedRect_plots (x y run rise : Int) (oc fc : Byte) :
    Plots (outlinedRect x y run rise oc fc) := by simp [outlinedRect]

theorem circleLoop_plots (tab : List Word) (cx cy r : Int) (c : Byte) (fuel : Nat) (dX dY n : Int) :
    Plots (circleLoop tab cx cy r c fuel dX dY n) := by
  induction fuel generalizing dX dY n with
  | zero => simp [circleLoop]
  | succ fuel ih => rw [circleLoop]; split <;> simp [octants, ih]

@[simp] theorem circle_plots (tab : List Word) (cx cy r : Int) (c : Byte) : Plots (circle tab cx cy r c) := by
  simp [circle, circleLoop_plots]

/-- GETPIX is the only command that fetches (spec/41_pixel_surface_signstep.md R144). -/
theorem planOf_plots (i : Instr) (s : State) (e : Engine) (hi : i ≠ .getpix) : Plots (planOf i s e).accesses := by
  cases i with
  | getpix => exact absurd rfl hi
  | tabrd => simp only [planOf, planTabrd]; split_ifs <;> exact plots_nil
  | circle | circlea => simp only [planOf, planCircle, planCirclea]; split <;> simp [Plan.accesses]
  | fxdiv => simp only [planOf, planFxdiv]; split <;> exact plots_nil
  | setpix => simp [planOf, planSetpix, Plan.accesses]
  | vline | hline | line => simp [planOf, planVline, planHline, planLine, Plan.accesses]
  | vlinea | hlinea | linea => simp [planOf, planVlinea, planHlinea, planLinea, Plan.accesses]
  | rect | frect | orect => simp [planOf, planRect, planFrect, planOrect, Plan.accesses]
  | recta | frecta | orecta => simp [planOf, planRecta, planFrecta, planOrecta, Plan.accesses]
  | _ => exact plots_nil

/-- The commands whose start step gives RESULT a value (spec/10_state.md R28). -/
theorem mem_of_planOf_eq_value (i : Instr) (s : State) (e : Engine) (v : Word) (hplan : planOf i s e = .value v) :
    i ∈ [Instr.addr, .getpix, .sgn, .tabrd, .itofx, .fxtoi, .fxmul, .fxdiv] := by
  cases i with
  | addr | sgn | tabrd | itofx | fxtoi | fxmul | fxdiv => decide
  | circle | circlea =>
    simp only [planOf, planCircle, planCirclea] at hplan
    split at hplan <;> cases hplan
  | _ => cases hplan

/-- A list of accesses is in bounds, or has a first access that is not. -/
theorem inBounds_or_first_outOfBounds (e : Engine) (S : List Access) :
    (∀ a ∈ S, e.inBounds a.x a.y = true) ∨
      ∃ before a after, S = before ++ a :: after ∧ (∀ b ∈ before, e.inBounds b.x b.y = true) ∧
        e.inBounds a.x a.y = false := by
  cases hfind : S.find? fun a => !e.inBounds a.x a.y with
  | none => exact .inl (by simpa using hfind)
  | some a =>
    obtain ⟨ha, before, after, hS, hbefore⟩ := List.find?_eq_some_iff_append.1 hfind
    exact .inr ⟨before, a, after, hS, by simpa using hbefore, by simpa using ha⟩

/-- How an accepted drawing command, or GETPIX, can end: every access made, or `E_OOB` at the first out of bounds (R142,
R246). -/
theorem exec_draw_cases (s t : State) (e : Engine) (i : Instr) (q : Bool) (S : List Access) (h : s.accepted e)
    (hplan : planOf i s e = .draw q S) (hrun : exec i s = .next t) :
    t = ((s.accessed e S).flagNotSquare q).done ∨
      ∃ before a after, S = before ++ a :: after ∧
        t = ((s.accessed e before).flagNotSquare q).raise .oob a.x a.y := by
  obtain ⟨he, hpos⟩ := h
  rw [exec_eq_perform] at hrun
  rcases inBounds_or_first_outOfBounds e S with hS | ⟨before, a, after, rfl, hbefore, ha⟩
  · rw [perform_draw s e _ q S he hpos hplan hS] at hrun
    exact .inl (Host.Outcome.next.inj hrun).symm
  · rw [perform_outOfBounds s e _ q before after a he hpos hplan hbefore ha] at hrun
    split at hrun
    · exact .inr ⟨before, a, after, rfl, (Host.Outcome.next.inj hrun).symm⟩
    · cases hrun

/-- GETPIX leaves RESULT unless it completes: its one access is the fetch (R149). -/
theorem exec_getpix_result (s t : State) (e : Engine) (h : s.accepted e) (hno : s.err = false)
    (hrun : exec .getpix s = .next t) (herr : t.err = true) : t.result = s.result := by
  rcases exec_draw_cases s t e .getpix _ _ h rfl hrun with rfl | ⟨before, a, after, hS, rfl⟩
  · simp [hno] at herr
  · obtain rfl : before = [] := by cases before <;> simp_all
    rfl

/-- A command ending in an error, or returning no value, leaves RESULT (R28, R245). -/
theorem exec_result (s t : State) (e : Engine) (i : Instr) (h : s.accepted e) (hno : s.err = false)
    (hrun : exec i s = .next t)
    (hi : t.err = true ∨ i ∉ [Instr.addr, .getpix, .sgn, .tabrd, .itofx, .fxtoi, .fxmul, .fxdiv]) :
    t.result = s.result := by
  obtain ⟨he, hpos⟩ := h
  cases hplan : planOf i s e with
  | error k =>
    rw [exec_eq_perform, perform_error s e _ k he hpos hplan] at hrun
    cases hrun; rfl
  | table T =>
    rw [exec_eq_perform, perform_table s e _ T he hpos hplan] at hrun
    cases hrun; rfl
  | value v =>
    rw [exec_eq_perform, perform_value s e _ v he hpos hplan] at hrun
    cases hrun
    rcases hi with herr | hi
    · simp [hno] at herr
    · exact absurd (mem_of_planOf_eq_value i s e v hplan) hi
  | draw q S =>
    by_cases hget : i = .getpix
    · subst hget
      exact exec_getpix_result s t e ⟨he, hpos⟩ hno hrun (by simpa using hi)
    · have hplots : Plots S := by simpa [hplan, Plan.accesses] using planOf_plots i s e hget
      rcases exec_draw_cases s t e i q S ⟨he, hpos⟩ hplan hrun with rfl | ⟨before, a, after, rfl, rfl⟩
      · exact s.accessed_plots_result e S hplots
      · exact s.accessed_plots_result e before ((plots_append ..).1 hplots).1

/-- Settles O58: RESULT by how the command ends, TV, the table and NSQ by its start step. -/
theorem registerWriters : Obligations.RegisterWriters := by
  intro i s t e h hno hrun
  obtain ⟨htv, htab⟩ := exec_tv_tab s t e i h hrun
  exact ⟨exec_result s t e i h hno hrun, htv, htab, exec_nsq s t e i h hrun⟩

end Sys2Proof.Machine
end

section
/-! PROOFS. The framebuffer (spec/20_memory.md R60 to R74): in-bounds points and their offsets, the accesses of other
agents, and what commands do with its bytes: none writes outside the latched geometry, and all but GETPIX only write. -/

namespace Sys2Proof.Machine

/-! ### The offsets of in-bounds points (R74) -/

section
variable (e : Engine) (x y : Int) (h : e.inBounds x y = true)
include h

/-- The address of an in-bounds point is not negative: its offset is the address itself (R140). -/
theorem Engine.offset_eq_addr : (e.offset x y : Int) = e.addr x y := by
  obtain ⟨⟨hx, -⟩, hy, -⟩ := (e.inBounds_iff x y).1 h
  exact Int.toNat_of_nonneg (Int.add_nonneg (Int.mul_nonneg hy (Int.natCast_nonneg _)) hx)

/-- The row of an in-bounds point is the quotient of its address by the width. -/
theorem Engine.addr_ediv_width : e.addr x y / e.w.toNat = y := by
  obtain ⟨⟨hx, hxw⟩, -, -⟩ := (e.inBounds_iff x y).1 h
  rw [Engine.addr, Int.add_comm, Int.add_mul_ediv_right x y (by omega), Int.ediv_eq_zero_of_lt hx hxw, Int.zero_add]

/-- The column of an in-bounds point is the remainder. -/
theorem Engine.addr_emod_width : e.addr x y % e.w.toNat = x := by
  obtain ⟨⟨hx, hxw⟩, -, -⟩ := (e.inBounds_iff x y).1 h
  rw [Engine.addr, Int.add_comm, Int.add_mul_emod_self_right, Int.emod_eq_of_lt hx hxw]

end

/-- Settles O25: quotient and remainder by the width give the point back from its offset. -/
theorem inBoundsOffsetsDistinct : Obligations.InBoundsOffsetsDistinct := by
  intro e x y x' y' h h'
  have harea := e.offset_lt_area x y h
  have hbytes : Config.framebufferBytes < 2 ^ 32 := by decide
  refine ⟨e.offset_eq_addr x y h, harea, by have := e.area_le_framebufferBytes; omega, fun hoff => ?_⟩
  have haddr : e.addr x y = e.addr x' y' := by rw [← e.offset_eq_addr x y h, ← e.offset_eq_addr x' y' h', hoff]
  constructor
  · rw [← e.addr_emod_width x y h, haddr, e.addr_emod_width x' y' h']
  · rw [← e.addr_ediv_width x y h, haddr, e.addr_ediv_width x' y' h']

/-! ### The moves of other agents (R62, R67, R70) -/

/-- Settles O20: the refusal is the whole move. -/
theorem narrowAccessRefused : Obligations.NarrowAccessRefused :=
  fun s rest off h => step_narrow s rest off h

/-- Settles O21: the write by the law of reading after a write, the read as the move itself. -/
theorem otherAgentWritesOneByte : Obligations.OtherAgentWritesOneByte := by
  intro s rest o ho
  refine ⟨fun v h => ⟨(s.popped rest).writeByte o v, step_otherWrite s rest o v h ho, rfl, ?_, fun o' hne => ?_⟩,
    fun h => step_otherRead s rest o h ho⟩
  · rw [State.readByte_writeByte, if_pos rfl]
  · rw [State.readByte_writeByte, if_neg hne]; rfl

/-! ### No byte outside the latched geometry changes (R64, R246) -/

/-- An in-bounds access leaves every byte past the geometry's last one. -/
theorem readByte_access_outside (s : State) (e : Engine) (a : Access) (o : Nat) (ha : e.inBounds a.x a.y = true)
    (ho : e.w.toNat * e.h.toNat ≤ o) : (s.access e a).readByte o = s.readByte o := by
  cases a with
  | plot x y c =>
    have hlt := e.offset_lt_area x y ha
    exact (s.readByte_writeByte _ o c).trans (if_neg (by omega))
  | fetch x y => rfl

theorem readByte_accessed_outside (s : State) (e : Engine) (S : List Access) (o : Nat)
    (hS : ∀ a ∈ S, e.inBounds a.x a.y = true) (ho : e.w.toNat * e.h.toNat ≤ o) :
    (s.accessed e S).readByte o = s.readByte o := by
  induction S generalizing s with
  | nil => rfl
  | cons a S ih =>
    rw [State.accessed_cons, ih _ fun b hb => hS b (by simp [hb]), readByte_access_outside s e a o (hS a (by simp)) ho]

/-- The start step writes no byte (spec/10_state.md R37). -/
theorem readByte_startStep (s : State) (e : Engine) (plan : Plan) (o : Nat) :
    (s.startStep e plan).readByte o = s.readByte o := by
  cases plan with
  | error | value | table => rfl
  | draw q S => rw [startStep_draw]; rfl

/-- The run of the accesses makes them all, or those before the first out-of-bounds one: in-bounds ones only. -/
theorem readByte_runAccesses_outside (S : List Access) (s t : State) (e : Engine) (p o : Nat)
    (he : s.engine = some { e with pos := some p }) (hrun : s.runAccesses S = .next t)
    (ho : e.w.toNat * e.h.toNat ≤ o) : t.readByte o = s.readByte o := by
  rcases inBounds_or_first_outOfBounds e S with hS | ⟨before, a, after, rfl, hbefore, ha⟩
  · by_cases hne : S = []
    · subst hne; cases hrun; rfl
    · rw [runAccesses_inBounds S s e p hne he hS] at hrun
      cases hrun
      exact readByte_accessed_outside s e S o hS ho
  · rw [runAccesses_outOfBounds before after a s e p he hbefore ha] at hrun
    split at hrun
    · cases hrun
      exact readByte_accessed_outside s e before o hbefore ho
    · cases hrun

/-- After its start step the engine is idle or stands before access 0, on what it latched (spec/10_state.md R37). -/
theorem startStep_engine (s : State) (e : Engine) (plan : Plan) :
    (s.startStep e plan).engine = none ∨ (s.startStep e plan).engine = some { e with pos := some 0 } := by
  cases plan with
  | error | value | table => exact .inl rfl
  | draw q S =>
    rw [startStep_draw, State.setEngine_engine]
    split
    · exact .inl rfl
    · exact .inr rfl

/-- Settles O59: the start step writes nothing, and the accesses, from wherever the engine stood, are in bounds. -/
theorem framebufferConfined : Obligations.FramebufferConfined := by
  intro i s t e o he hrun ho
  rw [exec_eq_perform] at hrun
  cases hpos : e.pos with
  | none =>
    rw [perform_start s e _ he hpos] at hrun
    rw [← readByte_startStep s e (planOf i s e) o]
    rcases startStep_engine s e (planOf i s e) with hidle | hstarted
    · rw [runAccesses_idle _ _ hidle] at hrun
      cases hrun; rfl
    · exact readByte_runAccesses_outside _ _ t e 0 o hstarted hrun ho
  | some p =>
    simp only [State.perform, he, hpos] at hrun
    exact readByte_runAccesses_outside _ s t e p o (by rw [he, ← hpos]) hrun ho

/-! ### Only GETPIX reads the framebuffer (R60, R144) -/

/-- `t` and `t'`, reached from `s` and `s'`, differ in the framebuffer at most, and the same bytes were written on both
ways: each byte has one value in both, or is in each as it was before. -/
structure WroteSame (s s' t t' : State) : Prop where
  registers : t' = { t with mem := t'.mem }
  bytes : ∀ o, t'.readByte o = t.readByte o ∨ (t.readByte o = s.readByte o ∧ t'.readByte o = s'.readByte o)

section
variable {s s' t t' : State}

/-- Nothing has been written at the start. -/
theorem WroteSame.start (s : State) (m : Memory) : WroteSame s { s with mem := m } s { s with mem := m } where
  registers := rfl
  bytes _ := .inr ⟨rfl, rfl⟩

/-- An operation on the registers, the framebuffer being no concern of it, done on both sides. -/
theorem WroteSame.map (h : WroteSame s s' t t') (f : State → State)
    (hf : ∀ (u : State) (m : Memory), f { u with mem := m } = { f u with mem := m }) :
    WroteSame s s' (f t) (f t') := by
  have hmem : ∀ u : State, (f u).mem = u.mem := fun u => by
    have h := congrArg State.mem (hf u u.mem)
    exact h
  have hread : ∀ (u : State) (o : Nat), (f u).readByte o = u.readByte o := fun u o => by
    rw [State.readByte, hmem, State.readByte]
  refine ⟨?registers, fun o => ?bytes⟩
  case registers => rw [hmem, ← hf, ← h.registers]
  case bytes => simpa only [hread] using h.bytes o

/-- One byte written on both sides. -/
theorem WroteSame.writeByte (h : WroteSame s s' t t') (o : Nat) (v : Byte) :
    WroteSame s s' (t.writeByte o v) (t'.writeByte o v) where
  registers := congrArg (fun u : State => { u with mem := t'.mem.write o v }) h.registers
  bytes o' := by
    simp only [State.readByte_writeByte]
    split
    · exact .inl rfl
    · exact h.bytes o'

/-- A list of writes made on both sides. -/
theorem WroteSame.accessed (h : WroteSame s s' t t') (e : Engine) (S : List Access) (hS : Plots S) :
    WroteSame s s' (t.accessed e S) (t'.accessed e S) := by
  induction S generalizing t t' with
  | nil => exact h
  | cons a S ih =>
    obtain ⟨x, y, c, rfl⟩ := hS a (by simp)
    exact ih (h.writeByte (e.offset x y) c) ((plots_cons x y c S).1 hS)

end

/-- A drawing command that only writes goes the same way on other contents: which of its accesses are made depends on
the geometry and ID alone. -/
theorem perform_draw_otherBytes (s t : State) (e : Engine) (plan : State → Engine → Plan) (q : Bool) (S : List Access)
    (m : Memory) (h : s.accepted e) (hplan : plan s e = .draw q S) (hplan' : plan { s with mem := m } e = .draw q S)
    (hplots : Plots S) (hrun : s.perform plan = .next t) :
    ∃ t', ({ s with mem := m } : State).perform plan = .next t' ∧ WroteSame s { s with mem := m } t t' := by
  obtain ⟨he, hpos⟩ := h
  rcases inBounds_or_first_outOfBounds e S with hS | ⟨before, a, after, rfl, hbefore, ha⟩
  · rw [perform_draw s e plan q S he hpos hplan hS] at hrun
    cases hrun
    exact ⟨_, perform_draw _ e plan q S he hpos hplan' hS,
      ((WroteSame.start s m).accessed e S hplots).map (fun u => (u.flagNotSquare q).done) fun _ _ => rfl⟩
  · rw [perform_outOfBounds s e plan q before after a he hpos hplan hbefore ha] at hrun
    split at hrun
    · next hbchk =>
      cases hrun
      exact ⟨_, (perform_outOfBounds { s with mem := m } e plan q before after a he hpos hplan' hbefore ha).trans
          (if_pos hbchk),
        ((WroteSame.start s m).accessed e before ((plots_append ..).1 hplots).1).map
          (fun u => (u.flagNotSquare q).raise .oob a.x a.y) fun _ _ => rfl⟩
    · cases hrun

/-- Settles O60: the plan does not depend on the framebuffer; a plan without accesses changes registers only, and the
accesses of the others are writes. -/
theorem onlyGetpixReads : Obligations.OnlyGetpixReads := by
  intro i s t e m h hi hrun
  suffices hsame : ∃ t', exec i { s with mem := m } = .next t' ∧ WroteSame s { s with mem := m } t t' by
    obtain ⟨t', hrun', hwrote⟩ := hsame
    exact ⟨t', hrun', hwrote.registers, hwrote.bytes⟩
  obtain ⟨he, hpos⟩ := h
  have hplots := planOf_plots i s e hi
  have hplan' : planOf i { s with mem := m } e = planOf i s e := planOf_congr i s _ e rfl rfl
  have hstart := WroteSame.start s m
  rw [exec_eq_perform] at hrun ⊢
  cases hplan : planOf i s e with
  | error k =>
    cases (perform_error s e _ k he hpos hplan).symm.trans hrun
    exact ⟨_, perform_error _ e _ k he hpos (hplan'.trans hplan),
      hstart.map (fun u => u.raise k 0 0) fun _ _ => rfl⟩
  | value v =>
    cases (perform_value s e _ v he hpos hplan).symm.trans hrun
    exact ⟨_, perform_value _ e _ v he hpos (hplan'.trans hplan),
      hstart.map (fun u => (u.setResult v).done) fun _ _ => rfl⟩
  | table T =>
    cases (perform_table s e _ T he hpos hplan).symm.trans hrun
    exact ⟨_, perform_table _ e _ T he hpos (hplan'.trans hplan),
      hstart.map (fun u => (u.setTable T).done) fun _ _ => rfl⟩
  | draw q S =>
    rw [hplan] at hplots
    exact perform_draw_otherBytes s t e _ q S m ⟨he, hpos⟩ hplan (hplan'.trans hplan) hplots hrun

end Sys2Proof.Machine
end

section
/-! PROOFS. The encoding (spec/30_encoding.md sections 1 and 3): a word is read back by the fields of its format, so
decoding and encoding undo each other, and the rows of the opcode map select the words that decode. -/

namespace Sys2Proof

/-! ### The words of the formats, read by their fields -/

@[simp] theorem opField_wordC (op c : Byte) : opField (wordC op c) = op := opField_wordCC op c 0

@[simp] theorem opField_wordN (op : Byte) : opField (wordN op) = op := opField_wordCC op 0 0

@[simp] theorem decodeCC_wordCC (op c c2 : Byte) (mk : Byte → Byte → Instr) :
    decodeCC (wordCC op c c2) mk = .ok (mk c c2) :=
  (decodeCC_ok ..).2 ⟨by simp, by simp⟩

@[simp] theorem decodeC_wordC (op c : Byte) (mk : Byte → Instr) : decodeC (wordC op c) mk = .ok (mk c) :=
  (decodeC_ok ..).2 ⟨by simp [wordC], by simp [wordC], by simp [wordC]⟩

@[simp] theorem decodeN_wordN (op : Byte) (i : Instr) : decodeN (wordN op) i = .ok i :=
  (decodeN_ok ..).2 ⟨by simp [wordN], by simp [wordN], by simp [wordN], rfl⟩

/-- Settles O1: the opcode of the encoded word picks the row, and the row's format gives the fields back. -/
theorem decodeOfEncode : Obligations.DecodeOfEncode := by
  intro i
  cases i with
  | orect | orecta => simp only [encode, decode, opField_wordCC]; exact decodeCC_wordCC ..
  | fcircle | ellipse | fellipse => simp [encode, decode]
  | addr | getpix | sgn | buildtab | tabrd | itofx | fxtoi | fxmul | fxdiv =>
    simp only [encode, decode, opField_wordN]; exact decodeN_wordN ..
  | _ => simp only [encode, decode, opField_wordC]; exact decodeC_wordC ..

/-! ### A word is the word of its fields -/

section
variable {w : Word}

theorem wordCC_fields (hrsv : rsvField w = 0) : wordCC (opField w) (colorField w) (color2Field w) = w := by
  rw [wordCC, ← hrsv]
  exact (word_eq_fields w).symm

theorem wordC_fields (hrsv : rsvField w = 0) (hcolor2 : color2Field w = 0) :
    wordC (opField w) (colorField w) = w := by
  rw [wordC, ← hcolor2, wordCC_fields hrsv]

theorem wordN_fields (hrsv : rsvField w = 0) (hcolor2 : color2Field w = 0) (hcolor : colorField w = 0) :
    wordN (opField w) = w := by
  rw [wordN, ← wordC, ← hcolor, wordC_fields hrsv hcolor2]

variable {op : Byte} {i : Instr}

theorem encode_of_decodeCC {mk : Byte → Byte → Instr} (h : decodeCC w mk = .ok i)
    (hmk : ∀ c c2, encode (mk c c2) = wordCC op c c2) (hop : (opField w).toNat = op.toNat) : encode i = w := by
  obtain ⟨hrsv, rfl⟩ := (decodeCC_ok w mk i).1 h
  rw [hmk, ← BitVec.eq_of_toNat_eq hop, wordCC_fields hrsv]

theorem encode_of_decodeC {mk : Byte → Instr} (h : decodeC w mk = .ok i) (hmk : ∀ c, encode (mk c) = wordC op c)
    (hop : (opField w).toNat = op.toNat) : encode i = w := by
  obtain ⟨hrsv, hcolor2, rfl⟩ := (decodeC_ok w mk i).1 h
  rw [hmk, ← BitVec.eq_of_toNat_eq hop, wordC_fields hrsv hcolor2]

theorem encode_of_decodeN {j : Instr} (h : decodeN w j = .ok i) (hj : encode j = wordN op)
    (hop : (opField w).toNat = op.toNat) : encode i = w := by
  obtain ⟨hrsv, hcolor2, hcolor, rfl⟩ := (decodeN_ok w j i).1 h
  rw [hj, ← BitVec.eq_of_toNat_eq hop, wordN_fields hrsv hcolor2 hcolor]

theorem encode_of_decodeX {mk : BitVec 24 → Instr} (h : Decoded.ok (mk (restField w)) = .ok i)
    (hmk : ∀ rest, encode (mk rest) = wordX op rest) (hop : (opField w).toNat = op.toNat) : encode i = w := by
  cases h
  rw [hmk, ← BitVec.eq_of_toNat_eq hop, ← word_eq_rest]

end

/-- Settles O2: in no row of the opcode map do the checks of its format leave a bit of the word unread. The arms of
`decode`, numbered in their order, are taken by format: X, CC and N, then the arm of the unlisted opcodes, then C. -/
theorem encodeOfDecode : Obligations.EncodeOfDecode := by
  intro w i h
  unfold decode at h
  split at h
  case h_21 hop | h_22 hop | h_23 hop => exact encode_of_decodeX h (fun _ => rfl) hop
  case h_13 hop | h_16 hop => exact encode_of_decodeCC h (fun _ _ => rfl) hop
  case h_1 hop | h_3 hop | h_4 hop | h_17 hop | h_19 hop | h_24 hop | h_25 hop | h_26 hop | h_27 hop =>
    exact encode_of_decodeN h rfl hop
  case h_28 => cases h
  all_goals exact encode_of_decodeC h (fun _ => rfl) ‹_›

theorem decode_eq_ok_iff (w : Word) (i : Instr) : decode w = .ok i ↔ encode i = w :=
  ⟨encodeOfDecode w i, fun h => h ▸ decodeOfEncode i⟩

/-! ### The rows of the opcode map (R92, R96) -/

/-- An eight-bit field that the mask of a row examines is the pattern's in every word that the row selects. -/
theorem field_of_selects {name : String} {p m w : Word} (start : Nat) (h : OpcodeRow.selects ⟨name, p, m⟩ w = true)
    (hm : m.extractLsb' start 8 = 0xFF) : w.extractLsb' start 8 = p.extractLsb' start 8 := by
  have hword : w &&& m = p := beq_iff_eq.1 h
  rw [← hword, BitVec.extractLsb'_and, hm]
  exact BitVec.and_allOnes.symm

/-- The row selects only words that encode commands of its mnemonic. -/
def OpcodeRow.SelectsEncodings (row : OpcodeRow) : Prop :=
  ∀ w, row.selects w = true → ∃ i, encode i = w ∧ i.mnemonic = row.mnemonic

section
variable {name : String} {op : Byte}

theorem OpcodeRow.SelectsEncodings.formatN (i : Instr) (hi : encode i = wordN op) (hname : i.mnemonic = name) :
    OpcodeRow.SelectsEncodings ⟨name, wordN op, 0xFFFFFFFF⟩ := by
  intro w h
  have hword : w = wordN op := BitVec.and_allOnes.symm.trans (beq_iff_eq.1 h)
  exact ⟨i, hi.trans hword.symm, hname⟩

theorem OpcodeRow.SelectsEncodings.formatC (mk : Byte → Instr) (hmk : ∀ c, encode (mk c) = wordC op c)
    (hname : ∀ c, (mk c).mnemonic = name) : OpcodeRow.SelectsEncodings ⟨name, wordN op, 0xFFFF00FF⟩ := by
  intro w h
  have hop : opField w = op := (field_of_selects 0 h (by decide)).trans (opField_wordN op)
  have hcolor2 : color2Field w = 0 := (field_of_selects 16 h (by decide)).trans (color2Field_wordCC ..)
  have hrsv : rsvField w = 0 := (field_of_selects 24 h (by decide)).trans (rsvField_wordCC ..)
  exact ⟨mk (colorField w), by rw [hmk, ← hop, wordC_fields hrsv hcolor2], hname _⟩

theorem OpcodeRow.SelectsEncodings.formatCC (mk : Byte → Byte → Instr)
    (hmk : ∀ c c2, encode (mk c c2) = wordCC op c c2) (hname : ∀ c c2, (mk c c2).mnemonic = name) :
    OpcodeRow.SelectsEncodings ⟨name, wordN op, 0xFF0000FF⟩ := by
  intro w h
  have hop : opField w = op := (field_of_selects 0 h (by decide)).trans (opField_wordN op)
  have hrsv : rsvField w = 0 := (field_of_selects 24 h (by decide)).trans (rsvField_wordCC ..)
  exact ⟨mk (colorField w) (color2Field w), by rw [hmk, ← hop, wordCC_fields hrsv], hname _ _⟩

theorem OpcodeRow.SelectsEncodings.formatX (mk : BitVec 24 → Instr)
    (hmk : ∀ rest, encode (mk rest) = wordX op rest) (hname : ∀ rest, (mk rest).mnemonic = name) :
    OpcodeRow.SelectsEncodings ⟨name, wordN op, 0x000000FF⟩ := by
  intro w h
  have hop : opField w = op := (field_of_selects 0 h (by decide)).trans (opField_wordN op)
  exact ⟨mk (restField w), by rw [hmk, ← hop, ← word_eq_rest], hname _⟩

end

/-- Row by row, in the order of the opcode map. -/
theorem opcodeTable_selectsEncodings : ∀ row ∈ opcodeTable, row.SelectsEncodings := by
  simp only [opcodeTable, List.forall_mem_cons]
  exact ⟨.formatN .addr rfl rfl,
    .formatC .setpix (fun _ => rfl) (fun _ => rfl),
    .formatN .getpix rfl rfl,
    .formatN .sgn rfl rfl,
    .formatC .vline (fun _ => rfl) (fun _ => rfl),
    .formatC .hline (fun _ => rfl) (fun _ => rfl),
    .formatC .line (fun _ => rfl) (fun _ => rfl),
    .formatC .vlinea (fun _ => rfl) (fun _ => rfl),
    .formatC .hlinea (fun _ => rfl) (fun _ => rfl),
    .formatC .linea (fun _ => rfl) (fun _ => rfl),
    .formatC .rect (fun _ => rfl) (fun _ => rfl),
    .formatC .frect (fun _ => rfl) (fun _ => rfl),
    .formatCC .orect (fun _ _ => rfl) (fun _ _ => rfl),
    .formatC .recta (fun _ => rfl) (fun _ => rfl),
    .formatC .frecta (fun _ => rfl) (fun _ => rfl),
    .formatCC .orecta (fun _ _ => rfl) (fun _ _ => rfl),
    .formatN .buildtab rfl rfl,
    .formatC .circle (fun _ => rfl) (fun _ => rfl),
    .formatN .tabrd rfl rfl,
    .formatC .circlea (fun _ => rfl) (fun _ => rfl),
    .formatX .fcircle (fun _ => rfl) (fun _ => rfl),
    .formatX .ellipse (fun _ => rfl) (fun _ => rfl),
    .formatX .fellipse (fun _ => rfl) (fun _ => rfl),
    .formatN .itofx rfl rfl,
    .formatN .fxtoi rfl rfl,
    .formatN .fxmul rfl rfl,
    .formatN .fxdiv rfl rfl, nofun⟩

/-- No two rows share a mnemonic. -/
theorem opcodeTable_mnemonic_inj {row row' : OpcodeRow} (hrow : row ∈ opcodeTable) (hrow' : row' ∈ opcodeTable)
    (h : row.mnemonic = row'.mnemonic) : row = row' :=
  List.inj_on_of_nodup_map (f := OpcodeRow.mnemonic) (by decide) hrow hrow' h

/-- Every command has its row in the map. -/
theorem encoding_fits_row (i : Instr) : Laws.EncodingFitsRow.Statement i := by
  cases i with
  | addr => exact Laws.EncodingFitsRow.addr
  | setpix c => exact Laws.EncodingFitsRow.setpix c
  | getpix => exact Laws.EncodingFitsRow.getpix
  | sgn => exact Laws.EncodingFitsRow.sgn
  | vline c => exact Laws.EncodingFitsRow.vline c
  | hline c => exact Laws.EncodingFitsRow.hline c
  | line c => exact Laws.EncodingFitsRow.line c
  | vlinea c => exact Laws.EncodingFitsRow.vlinea c
  | hlinea c => exact Laws.EncodingFitsRow.hlinea c
  | linea c => exact Laws.EncodingFitsRow.linea c
  | rect c => exact Laws.EncodingFitsRow.rect c
  | frect c => exact Laws.EncodingFitsRow.frect c
  | orect c c2 => exact Laws.EncodingFitsRow.orect c c2
  | recta c => exact Laws.EncodingFitsRow.recta c
  | frecta c => exact Laws.EncodingFitsRow.frecta c
  | orecta c c2 => exact Laws.EncodingFitsRow.orecta c c2
  | buildtab => exact Laws.EncodingFitsRow.buildtab
  | circle c => exact Laws.EncodingFitsRow.circle c
  | tabrd => exact Laws.EncodingFitsRow.tabrd
  | circlea c => exact Laws.EncodingFitsRow.circlea c
  | fcircle rest => exact Laws.EncodingFitsRow.fcircle rest
  | ellipse rest => exact Laws.EncodingFitsRow.ellipse rest
  | fellipse rest => exact Laws.EncodingFitsRow.fellipse rest
  | itofx => exact Laws.EncodingFitsRow.itofx
  | fxtoi => exact Laws.EncodingFitsRow.fxtoi
  | fxmul => exact Laws.EncodingFitsRow.fxmul
  | fxdiv => exact Laws.EncodingFitsRow.fxdiv

theorem selects_iff_decode {row : OpcodeRow} (hrow : row ∈ opcodeTable) (w : Word) :
    row.selects w = true ↔ ∃ i, decode w = .ok i ∧ i.mnemonic = row.mnemonic := by
  simp only [decode_eq_ok_iff]
  refine ⟨opcodeTable_selectsEncodings row hrow w, ?_⟩
  rintro ⟨i, rfl, hname⟩
  obtain ⟨row', hrow', hname', hselects⟩ := encoding_fits_row i
  rwa [opcodeTable_mnemonic_inj hrow hrow' (hname.symm.trans hname'.symm)]

/-- Settles O3: two rows that select one word have the mnemonic of the one command it denotes. -/
theorem wordSelectsRowByMask : Obligations.WordSelectsRowByMask := by
  refine fun w => ⟨fun row hrow => selects_iff_decode hrow w, fun row hrow row' hrow' h h' => ?_⟩
  obtain ⟨i, hi, hname⟩ := (selects_iff_decode hrow w).1 h
  obtain ⟨j, hj, hname'⟩ := (selects_iff_decode hrow' w).1 h'
  obtain rfl : i = j := Decoded.ok.inj (hi.symm.trans hj)
  exact opcodeTable_mnemonic_inj hrow hrow' (hname.symm.trans hname')

/-- Settles O4: each of the nine legal words is its command's encoding, and the five illegal ones are evaluated. -/
theorem sampleWordsDecode : Obligations.SampleWordsDecode :=
  ⟨decodeOfEncode .addr, decodeOfEncode (.setpix 0x2A), decodeOfEncode (.line 3), decodeOfEncode (.orect 4 5),
    decodeOfEncode (.frect 1), decodeOfEncode (.circlea 7), decodeOfEncode .tabrd, decodeOfEncode .fxdiv,
    decodeOfEncode (.ellipse 0xFFFFFF), by decide, by decide, by decide, by decide, by decide⟩

end Sys2Proof
end

section
/-! PROOFS. Commands and programs end (spec/30_encoding.md R101, R103; spec/70_reset_and_hazards.md R280, R281): a running
command leaves the block idle, a command line is one call of its command, and a program of lines leaves the block idle. -/

namespace Sys2Proof.Machine

/-! ### Every running command ends (R103) -/

/-- The outcome is an idle block, or the fault of a point out of the bounds that `e` latched, which nothing checks in `s`
(spec/41_pixel_surface_signstep.md R142). -/
def State.EndsWith (s : State) (e : Engine) (o : Host.Outcome State Fault Refusal) : Prop :=
  (∃ t, o = .next t ∧ t.engine = none) ∨
    (s.bchk = false ∧ ∃ x y, e.inBounds x y = false ∧ o = .fault (.outOfBounds x y))

/-- The accesses that are left, one at least, end the command. -/
theorem runAccesses_endsWith (s : State) (e : Engine) (p : Nat) (S : List Access)
    (he : s.engine = some { e with pos := some p }) (hne : S ≠ []) : s.EndsWith e (s.runAccesses S) := by
  rcases inBounds_or_first_outOfBounds e S with hS | ⟨before, a, after, rfl, hbefore, ha⟩
  · exact .inl ⟨_, runAccesses_inBounds S s e p hne he hS, rfl⟩
  · rw [runAccesses_outOfBounds before after a s e p he hbefore ha]
    cases hbchk : s.bchk with
    | true => exact .inl ⟨_, rfl, rfl⟩
    | false => exact .inr ⟨hbchk, a.x, a.y, ha, rfl⟩

@[simp] theorem startStep_bchk (s : State) (e : Engine) (plan : Plan) : (s.startStep e plan).bchk = s.bchk := by
  cases plan with
  | error | value | table => rfl
  | draw q S => rw [startStep_draw]; rfl

/-- From its start step a command ends. -/
theorem startStep_endsWith (s : State) (e : Engine) (plan : Plan) :
    s.EndsWith e ((s.startStep e plan).runAccesses plan.accesses) := by
  rcases startStep_engine s e plan with hidle | hstarted
  · exact .inl ⟨_, runAccesses_idle _ _ hidle, hidle⟩
  · have hne : plan.accesses ≠ [] := (startStep_idle_or_accesses s e plan).resolve_left (by simp [hstarted])
    have h := runAccesses_endsWith _ e 0 plan.accesses hstarted hne
    rwa [State.EndsWith, startStep_bchk] at h

/-- A running command ends from wherever it stands, not started or before one of its accesses (R37). -/
theorem runCommand_endsWith (s : State) (e : Engine) (he : s.engine = some e)
    (hpos : ∀ p, e.pos = some p → ∃ i, decode s.cmd = .ok i ∧ p < (planOf i s e).accesses.length) :
    s.EndsWith e s.runCommand := by
  cases hi : decode s.cmd with
  | illegal why =>
    rw [runCommand_illegal s e why he hi]
    exact .inl ⟨_, rfl, State.raise_engine ..⟩
  | ok i =>
    rw [runCommand_ok s e i he hi, exec_eq_perform]
    cases hp : e.pos with
    | none =>
      rw [perform_start s e _ he hp]
      exact startStep_endsWith s e _
    | some p =>
      obtain ⟨j, hj, hlt⟩ := hpos p hp
      obtain rfl : i = j := Decoded.ok.inj (hi.symm.trans hj)
      simp only [State.perform, he, hp]
      exact runAccesses_endsWith s e p _ (by rw [he, ← hp]) (by simpa using hlt)

/-- Settles O8: the invariant says where a running command may stand. -/
theorem busyCommandEnds : Obligations.BusyCommandEnds := by
  intro s e h hscript he
  rw [step_command s hscript]
  exact runCommand_endsWith s e he (h.runs he).position

/-- The inputs of a command are kept whether its word is legal or not. -/
theorem runCommand_inputs (s t : State) (hrun : s.runCommand = .next t) : t.inputs = s.inputs := by
  cases he : s.engine with
  | none => rw [runCommand_idle s he] at hrun; cases hrun; rfl
  | some e =>
    cases hi : decode s.cmd with
    | illegal why => rw [runCommand_illegal s e why he hi] at hrun; cases hrun; rfl
    | ok i =>
      rw [runCommand_ok s e i he hi, exec_eq_perform] at hrun
      exact perform_inputs s t _ hrun

/-! ### Runs of several steps -/

theorem run_next (n : Nat) (s t : State) (h : step s = .next t) : core.run (n + 1) s = core.run n t := by
  simp only [Host.Core.run, core, h]

theorem run_one (s : State) : core.run 1 s = step s := by
  simp only [Host.Core.run, core]
  cases step s <;> rfl

theorem run_add (m n : Nat) (s : State) :
    core.run (m + n) s =
      match core.run m s with
      | .next t => core.run n t
      | .fault r => .fault r
      | .refused r => .refused r := by
  induction m generalizing s with
  | zero => rw [Nat.zero_add]; rfl
  | succ m ih =>
    rw [Nat.add_right_comm]
    simp only [Host.Core.run, core] at ih ⊢
    cases step s with
    | next t => exact ih t
    | fault | refused => rfl

/-- `n` steps from `s` reach an idle block whose agents have the moves `rest` left, or end in the fault of a point that
nothing checks. -/
def SettlesIn (n : Nat) (s : State) (rest : List Action) : Prop :=
  (∃ t : State, core.run n s = .next t ∧ t.engine = none ∧ t.script = rest ∧ t.bchk = s.bchk) ∨
    (s.bchk = false ∧ ∃ x y, core.run n s = .fault (.outOfBounds x y))

theorem SettlesIn.trans {m n : Nat} {s : State} {mid rest : List Action} (h : SettlesIn m s mid)
    (hnext : ∀ t : State, t.engine = none → t.script = mid → SettlesIn n t rest) : SettlesIn (m + n) s rest := by
  unfold SettlesIn
  rw [run_add]
  rcases h with ⟨t, hrun, hidle, hscript, hbchk⟩ | ⟨hbchk, x, y, hrun⟩ <;> rw [hrun]
  · rw [← hbchk]
    exact hnext t hidle hscript
  · exact .inr ⟨hbchk, x, y, rfl⟩

/-- A `WAIT` leaves the block idle, whether it finds it idle or with a command accepted (R101). -/
theorem wait_settlesIn (s : State) (rest : List Action) (hscript : s.script = .wait :: rest)
    (hpos : ∀ e, s.engine = some e → e.pos = none) : SettlesIn 1 s rest := by
  have hends : (∃ t, (s.popped rest).runCommand = .next t ∧ t.engine = none) ∨
      (s.bchk = false ∧ ∃ x y, (s.popped rest).runCommand = .fault (.outOfBounds x y)) := by
    cases he : s.engine with
    | none => exact .inl ⟨s.popped rest, runCommand_idle _ he, he⟩
    | some e =>
      refine (runCommand_endsWith (s.popped rest) e he (by simp [hpos e he])).imp_right ?_
      rintro ⟨hbchk, x, y, -, hrun⟩
      exact ⟨hbchk, x, y, hrun⟩
  unfold SettlesIn
  rw [run_one, step_wait s rest hscript, State.waitIdle]
  rcases hends with ⟨t, hrun, hidle⟩ | ⟨hbchk, x, y, hrun⟩ <;> rw [hrun]
  · have hinputs := ((s.popped rest).inputs_eq_iff t).1 (runCommand_inputs _ t hrun)
    obtain ⟨-, -, -, -, -, -, -, -, hbchk, hscript', -⟩ := hinputs
    exact .inl ⟨_, rfl, hidle, hscript', hbchk⟩
  · exact .inr ⟨hbchk, x, y, rfl⟩

/-! ### Moves that leave the block idle -/

/-- The moves, performed from an idle block, leave it idle, unless they reach a point that nothing checks. -/
def Settles (moves : List Action) : Prop :=
  ∀ (s : State) (rest : List Action), s.engine = none → s.script = moves ++ rest → SettlesIn moves.length s rest

theorem Settles.nil : Settles [] := fun s _ hidle hscript => .inl ⟨s, rfl, hidle, hscript, rfl⟩

theorem Settles.append {moves moves' : List Action} (h : Settles moves) (h' : Settles moves') :
    Settles (moves ++ moves') := by
  intro s rest hidle hscript
  rw [List.length_append]
  exact (h s (moves' ++ rest) hidle (by rw [hscript, List.append_assoc])).trans fun t => h' t rest

theorem Settles.flatMap {α : Type} (f : α → List Action) (xs : List α) (h : ∀ x ∈ xs, Settles (f x)) :
    Settles (xs.flatMap f) := by
  induction xs with
  | nil => exact .nil
  | cons x xs ih =>
    rw [List.flatMap_cons]
    exact (h x (by simp)).append (ih fun y hy => h y (by simp [hy]))

/-- A host write to any offset but that of CMD neither starts nor ends a command (R35). -/
theorem hostWrite_engine (s : State) (off : Nat) (v : Word) (hoff : off ≠ 0) : (s.hostWrite off v).engine = s.engine := by
  cases hr : Reg.ofOffset off with
  | none => rw [State.hostWrite, hr]
  | some r =>
    obtain rfl := Reg.offset_of_ofOffset off r hr
    rw [hostWrite_offset]
    cases r with
    | cmd => exact absurd rfl hoff
    | status | result | errx | erry | id => rfl
    | a0 | a1 | a2 | a3 | geom => exact writeReg_operand_engine s _ v (by decide)

theorem Settles.write (off : Nat) (v : Word) (hoff : off ≠ 0) : Settles [.write off v] := by
  intro s rest hidle hscript
  obtain ⟨-, -, -, hbchk, -, hscript', -⟩ := hostWrite_frame (s.popped rest) off v
  exact .inl ⟨_, (run_one s).trans (step_write s rest off v hscript),
    (hostWrite_engine (s.popped rest) off v hoff).trans hidle, hscript', hbchk⟩

theorem Settles.read (off : Nat) : Settles [.read off] := fun s rest hidle hscript =>
  .inl ⟨_, (run_one s).trans (step_read s rest off hscript), hidle, rfl, rfl⟩

theorem Settles.wait : Settles [.wait] := fun s rest hidle hscript =>
  wait_settlesIn s rest hscript (by simp [hidle])

/-- A CMD write and its `WAIT`: the word is accepted and its command ends, or it is dropped (R36). -/
theorem Settles.command (v : Word) : Settles [.write 0x00 v, .wait] := by
  intro s rest hidle hscript
  have hstep : step s = .next ((s.popped (.wait :: rest)).writeCmd v) := step_writeReg s _ .cmd v hscript
  have hwait : SettlesIn 1 ((s.popped (.wait :: rest)).writeCmd v) rest := by
    rcases writeCmd_cases (s.popped (.wait :: rest)) v with ⟨-, heq⟩ | ⟨-, -, heq⟩ <;> rw [heq]
    · exact wait_settlesIn _ rest rfl (by simp [State.popped, hidle])
    · exact wait_settlesIn _ rest rfl (by simp)
  have hbchk : ((s.popped (.wait :: rest)).writeCmd v).bchk = s.bchk := by
    obtain ⟨-, -, -, hbchk, -⟩ := hostWrite_frame (s.popped (.wait :: rest)) 0x00 v
    exact hbchk
  unfold SettlesIn at hwait ⊢
  rw [List.length_cons, run_next _ s _ hstep, ← hbchk]
  exact hwait

/-! ### Command lines and programs (R100, R101, R280) -/

theorem operandWrites_settles (k : Nat) (os : List Int) : Settles (operandWrites k os) := by
  induction os generalizing k with
  | nil => exact .nil
  | cons o os ih => exact (Settles.write _ _ (by omega)).append (ih (k + 1))

/-- Every line but a bare write of CMD leaves the block idle. -/
theorem expand_settles (l : Line) (h : ∀ v, l ≠ .wr .cmd v) : Settles l.expand := by
  cases l with
  | command i os => exact (operandWrites_settles 0 os).append (.command (encode i))
  | wait => exact .wait
  | clrerr | clrovr | clrnsq | setgeom => exact .write _ _ (by decide)
  | rd r => exact .read r.offset
  | wr r v =>
    refine .write r.offset v ?_
    cases r with
    | cmd => exact absurd rfl (h v)
    | _ => decide

theorem assemble_settles (lines : List Line) (h : ∀ l ∈ lines, ∀ v, l ≠ .wr .cmd v) : Settles (assemble lines) :=
  .flatMap Line.expand lines fun l hl => expand_settles l (h l hl)

/-! ### A command line is one call (R101) -/

/-- Operand register `k` written (spec/30_encoding.md R94). -/
def State.setOperand (s : State) (k : Nat) (v : Word) : State :=
  match k with
  | 0 => { s with a0 := v }
  | 1 => { s with a1 := v }
  | 2 => { s with a2 := v }
  | 3 => { s with a3 := v }
  | _ => s

/-- The operands of a line written in order, from register `k` on. -/
def State.setOperands (s : State) : Nat → List Int → State
  | _, [] => s
  | k, o :: os => (s.setOperand k (trunc32 o)).setOperands (k + 1) os

theorem setOperand_keeps (s : State) (k : Nat) (v : Word) :
    (s.setOperand k v).engine = s.engine ∧ (s.setOperand k v).script = s.script := by
  unfold State.setOperand
  split <;> exact ⟨rfl, rfl⟩

theorem setOperand_popped (s : State) (k : Nat) (v : Word) (rest rest' : List Action) :
    ((s.popped rest').setOperand k v).popped rest = (s.popped rest).setOperand k v := by
  unfold State.setOperand
  split <;> rfl

theorem step_operandWrite (s : State) (k : Nat) (v : Word) (rest : List Action) (hk : k < 4) (hidle : s.engine = none)
    (hscript : s.script = .write (0x08 + 4 * k) v :: rest) : step s = .next ((s.popped rest).setOperand k v) := by
  have hbusy : (s.popped rest).busy = false := (State.busy_eq_false _).2 hidle
  rw [step_write s rest _ v hscript]
  obtain rfl | rfl | rfl | rfl : k = 0 ∨ k = 1 ∨ k = 2 ∨ k = 3 := by omega
  all_goals simp [State.hostWrite, Reg.ofOffset, State.writeReg, hbusy, State.setOperand]

/-- The operand writes of a line leave the operands in their registers and nothing else changed. -/
theorem run_operandWrites (s : State) (k : Nat) (os : List Int) (rest : List Action) (hk : k + os.length ≤ 4)
    (hidle : s.engine = none) (hscript : s.script = operandWrites k os ++ rest) :
    core.run os.length s = .next ((s.popped rest).setOperands k os) := by
  induction os generalizing s k with
  | nil => cases s; cases hscript; rfl
  | cons o os ih =>
    rw [List.length_cons] at hk ⊢
    have hstep := step_operandWrite s k (trunc32 o) _ (by omega) hidle hscript
    obtain ⟨hengine, hscript'⟩ := setOperand_keeps (s.popped (operandWrites (k + 1) os ++ rest)) k (trunc32 o)
    rw [run_next _ s _ hstep]
    refine (ih _ (k + 1) (by omega) (hengine.trans hidle) hscript').trans ?_
    rw [setOperand_popped, State.setOperands]

theorem setOperands_eq (s : State) (os : List Int) (h : os.length ≤ 4) :
    s.setOperands 0 os = { s with
      a0 := (os[0]?).elim s.a0 trunc32
      a1 := (os[1]?).elim s.a1 trunc32
      a2 := (os[2]?).elim s.a2 trunc32
      a3 := (os[3]?).elim s.a3 trunc32 } := by
  match os with
  | [] | [_] | [_, _] | [_, _, _] | [_, _, _, _] => rfl
  | _ :: _ :: _ :: _ :: _ :: os => simp only [List.length_cons] at h; omega

theorem operandCount_le (i : Instr) : operandCount i ≤ 4 := by
  unfold operandCount
  split <;> decide

/-- A CMD write accepted, and its `WAIT`, are the command on the operands as they stand. -/
theorem run_command (s : State) (i : Instr) (hidle : s.engine = none) (herr : s.err = false)
    (hscript : s.script = [.write 0x00 (encode i), .wait]) :
    core.run 2 s =
      match exec i ((s.popped []).start (encode i)) with
      | .next t => .next { t with seen := t.statusWord :: t.seen }
      | .fault r => .fault r
      | .refused r => .refused r := by
  have hstep : step s = .next ((s.popped [.wait]).start (encode i)) := by
    rw [step_writeReg s [.wait] .cmd _ hscript]
    exact congrArg _ (writeCmd_accepted _ _ hidle herr)
  obtain ⟨-, hwait, -⟩ := stepRunsDecodedCommand ((s.popped [.wait]).start (encode i)) _ i [] rfl (decodeOfEncode i)
  rw [run_next 1 s _ hstep, run_one]
  exact hwait rfl

/-- Settles O23: a program is made of moves that leave the block idle, and a line's moves are the operand writes, then
the CMD write with its `WAIT`. -/
theorem commandLineIsOneCall : Obligations.CommandLineIsOneCall := by
  constructor
  · intro s lines hidle hlines hscript
    have hsettles := assemble_settles lines hlines s [] hidle (by rw [hscript, List.append_nil])
    rw [← hscript] at hsettles
    refine hsettles.imp_left ?_
    rintro ⟨t, hrun, hidle, hscript', -⟩
    exact ⟨t, hrun, by simp [State.ended, hscript'], hidle⟩
  · intro s i os hidle herr hwf hscript
    have hlen : os.length ≤ 4 := by
      simp only [Line.wellFormed, Bool.and_eq_true, beq_iff_eq] at hwf
      exact hwf.2 ▸ operandCount_le i
    have hoperands := run_operandWrites s 0 os _ (by omega) hidle hscript
    rw [setOperands_eq _ os hlen] at hoperands
    rw [run_add, hoperands]
    exact run_command _ i hidle herr rfl

end Sys2Proof.Machine
end

section
/-! PROOFS. The 16.16 fixed-point unit (spec/40_fixed_point.md): what the integer arithmetic of its rules does (R9), the
two results that are rearrangements of the operand's bits (R123, R124), and its four commands. -/

namespace Sys2Proof.Machine

/-! ### Commands without accesses: they end in their start step (R38, R245) -/

theorem exec_of_planOf_value (s : State) (e : Engine) (i : Instr) (v : Word) (h : s.accepted e)
    (hplan : planOf i s e = .value v) : exec i s = .next { s with result := v, engine := none } := by
  obtain ⟨he, hpos⟩ := h
  exact (exec_eq_perform i s).trans (perform_value s e _ v he hpos hplan)

theorem exec_of_planOf_error (s : State) (e : Engine) (i : Instr) (k : ErrCode) (h : s.accepted e)
    (hplan : planOf i s e = .error k) :
    exec i s = .next { s with err := true, errcode := k.code, errx := 0, erry := 0, engine := none } := by
  obtain ⟨he, hpos⟩ := h
  exact (exec_eq_perform i s).trans (perform_error s e _ k he hpos hplan)

/-! ### The integer arithmetic of the rules (R9) -/

/-- The right shift rounds toward minus infinity. -/
theorem asr_bounds (v : Int) (k : Nat) : asr v k * 2 ^ k ≤ v ∧ v < (asr v k + 1) * 2 ^ k := by
  have hpos : (0 : Int) < 2 ^ k := by positivity
  have hfloor : asr v k = v / 2 ^ k := by simp [asr, Int.shiftRight_eq_div_pow]
  rw [hfloor]
  exact ⟨Int.ediv_mul_le v hpos.ne', Int.lt_ediv_add_one_mul_self v hpos⟩

/-- The quotient's magnitude is the quotient of the magnitudes, rounded down. -/
theorem tdiv_natAbs_bounds (a b : Int) (hb : b ≠ 0) :
    (tdiv a b).natAbs * b.natAbs ≤ a.natAbs ∧ a.natAbs < ((tdiv a b).natAbs + 1) * b.natAbs := by
  have hmag : (tdiv a b).natAbs = a.natAbs / b.natAbs := Int.natAbs_tdiv a b
  have hpos : 0 < b.natAbs := Int.natAbs_pos.2 hb
  rw [hmag]
  refine ⟨Nat.div_mul_le_self .., ?_⟩
  rw [Nat.mul_comm]
  exact Nat.lt_mul_div_succ _ hpos

/-- A quotient that is not 0 has the sign of the product. -/
theorem tdiv_mul_nonneg (a b : Int) : 0 ≤ tdiv a b * (a * b) := by
  have hsign : (tdiv a b).sign = if a.natAbs < b.natAbs then 0 else a.sign * b.sign := Int.sign_tdiv a b
  rw [← Int.sign_nonneg_iff, Int.sign_mul, Int.sign_mul, hsign]
  split
  · rw [Int.zero_mul]
  · exact mul_self_nonneg _

/-- Scaling the dividend up keeps the sign. -/
theorem tdiv_shl_mul_nonneg (a b : Int) (k : Nat) : 0 ≤ tdiv (shl a k) b * (a * b) := by
  have hpos : (0 : Int) < 2 ^ k := by positivity
  have hscaled : 0 ≤ tdiv (shl a k) b * (a * b) * 2 ^ k :=
    calc 0 ≤ tdiv (shl a k) b * (shl a k * b) := tdiv_mul_nonneg ..
      _ = tdiv (shl a k) b * (a * b) * 2 ^ k := by rw [shl]; ring
  exact nonneg_of_mul_nonneg_left hscaled hpos

/-! ### Results that rearrange the operand's bits (R123, R124) -/

/-- The kept bits of an operand moved up are its low half over zeros. -/
theorem trunc32_shl_full (v : Word) : trunc32 (shl (full v) 16) = v.extractLsb' 0 16 ++ (0 : BitVec 16) := by
  have hshift : trunc32 (shl (full v) 16) = v <<< 16 := by
    rw [trunc32, shl, full, s32, BitVec.ofInt_mul, BitVec.ofInt_toInt, BitVec.shiftLeft_eq_mul_twoPow]
    rfl
  rw [hshift]
  refine BitVec.eq_of_getLsbD_eq fun i hi => ?_
  rw [BitVec.getLsbD_append]
  by_cases hlow : i < 16
  · simp [hlow]
  · have hhigh : i - 16 < 16 := by omega
    simp [hlow, hi, hhigh, BitVec.getLsbD_eq_getElem (i := i - 16) (by omega : i - 16 < 32)]

/-- An operand moved down is its high half with the sign carried on. -/
theorem trunc32_asr_full (v : Word) : trunc32 (asr (full v) 16) = (v.extractLsb' 16 16).signExtend 32 := by
  have hshift : trunc32 (asr (full v) 16) = v.sshiftRight 16 := by
    rw [trunc32, asr, full, s32, ← BitVec.toInt_sshiftRight, BitVec.ofInt_toInt]
  rw [hshift]
  refine BitVec.eq_of_getLsbD_eq fun i hi => ?_
  rw [BitVec.getLsbD_sshiftRight, BitVec.getLsbD_signExtend]
  by_cases hlow : i < 16
  · simp [hlow, hi, show 16 + i < 32 by omega]
  · simp [hlow, hi, show ¬ 16 + i < 32 by omega, BitVec.msb_eq_getLsbD_last]

/-- An operand is 0 in the full view when its bits are. -/
theorem full_eq_zero_iff (v : Word) : full v = 0 ↔ v = 0 := BitVec.toInt_inj (y := (0 : Word))

/-! ### The commands -/

theorem planOf_fxdiv_zero (s : State) (e : Engine) (h : e.l1 = 0) : planOf .fxdiv s e = .error .divz :=
  if_pos ((full_eq_zero_iff e.l1).2 h)

theorem planOf_fxdiv_nonzero (s : State) (e : Engine) (h : e.l1 ≠ 0) :
    planOf .fxdiv s e = .value (trunc32 (tdiv (shl (full e.l0) 16) (full e.l1))) :=
  if_neg (mt (full_eq_zero_iff e.l1).1 h)

/-- Settles O53: each command returns a value in its start step, and FXMUL's quotient is the floor that the shift
takes. -/
theorem fixedPointResults : Obligations.FixedPointResults := by
  intro s e h
  refine ⟨?itofx, ?fxtoi, asr (full e.l0 * full e.l1) 16, ?fxmul⟩
  case itofx =>
    rw [← trunc32_shl_full]
    exact exec_of_planOf_value s e .itofx _ h rfl
  case fxtoi =>
    rw [← trunc32_asr_full]
    exact exec_of_planOf_value s e .fxtoi _ h rfl
  case fxmul =>
    obtain ⟨hlow, hhigh⟩ := asr_bounds (full e.l0 * full e.l1) 16
    exact ⟨hlow, hhigh, exec_of_planOf_value s e .fxmul _ h rfl⟩

/-- Settles O54: magnitude and sign of FXDIV's quotient are those of the division toward zero of `a * 65536` by `b`. -/
theorem fxdivResult : Obligations.FxdivResult := by
  intro s e h
  refine ⟨fun hb => ⟨tdiv (shl (full e.l0) 16) (full e.l1), ?_⟩, fun hb => ?_⟩
  · obtain ⟨hlow, hhigh⟩ := tdiv_natAbs_bounds (shl (full e.l0) 16) (full e.l1) (mt (full_eq_zero_iff e.l1).1 hb)
    have hmag : (shl (full e.l0) 16).natAbs = e.l0.toInt.natAbs * 65536 := Int.natAbs_mul ..
    rw [hmag] at hlow hhigh
    exact ⟨hlow, hhigh, tdiv_shl_mul_nonneg .., exec_of_planOf_value s e .fxdiv _ h (planOf_fxdiv_nonzero s e hb)⟩
  · exact exec_of_planOf_error s e .fxdiv .divz h (planOf_fxdiv_zero s e hb)

end Sys2Proof.Machine
end


section
/-! PROOFS. The pixel surface and the sign step (spec/41_pixel_surface_signstep.md): the address calculator (R140, R141,
R147), the commands of one access (R148, R149), the sign (R150), and a pixel written and read back by two command lines
(R151). -/

namespace Sys2Proof.Machine

/-! ### The address calculator -/

/-- Settles O26: 256 and 64 rows of pixels make 320. -/
theorem shiftFormAgrees : Obligations.ShiftFormAgrees := by
  intro e x y hw
  have hw320 : (e.w.toNat : Int) = 320 := by rw [hw]; rfl
  rw [Engine.addr, hw320, shl, shl]
  ring

/-- The operands in the coordinate view are 16-bit signed (spec/10_state.md R22). -/
theorem coord_bounds (v : Word) : -32768 ≤ coord v ∧ coord v ≤ 32767 := (coordIsSignedLowHalf v).2

/-- The address of a point with 16-bit signed coordinates fits a signed word, whatever the geometry (R147). -/
theorem Engine.addr_bounds (e : Engine) (x y : Int) (hx : -32768 ≤ x ∧ x ≤ 32767) (hy : -32768 ≤ y ∧ y ≤ 32767) :
    -2 ^ 31 ≤ e.addr x y ∧ e.addr x y < 2 ^ 31 := by
  have hw : (e.w.toNat : Int) ≤ 65535 := by exact_mod_cast Nat.le_of_lt_succ e.w.isLt
  have hlow : -32768 * (e.w.toNat : Int) ≤ y * e.w.toNat :=
    Int.mul_le_mul_of_nonneg_right hy.1 (Int.natCast_nonneg _)
  have hhigh : y * (e.w.toNat : Int) ≤ 32767 * e.w.toNat :=
    Int.mul_le_mul_of_nonneg_right hy.2 (Int.natCast_nonneg _)
  unfold Engine.addr
  omega

/-- Settles O27: the address fits, so its low 32 bits are the address. -/
theorem addrResult : Obligations.AddrResult := by
  refine ⟨decodeOfEncode .addr, fun s e h => ⟨trunc32 (e.addr e.c0 e.c1), exec_of_planOf_value s e .addr _ h rfl, ?_⟩⟩
  obtain ⟨hlow, hhigh⟩ := e.addr_bounds e.c0 e.c1 (coord_bounds e.l0) (coord_bounds e.l1)
  rw [trunc32, BitVec.toInt_ofInt_eq_self (by decide) hlow hhigh, ← (coordIsSignedLowHalf e.l0).1,
    ← (coordIsSignedLowHalf e.l1).1]
  rfl

/-! ### The sign step -/

/-- Settles O30: the three values of the sign as words. -/
theorem sgnResult : Obligations.SgnResult := by
  refine ⟨decodeOfEncode .sgn, fun s e h => ?_⟩
  have hsign : trunc32 (sgn (full e.l0)) =
      if e.l0.toInt < 0 then 0xFFFFFFFF else if e.l0.toInt = 0 then 0 else 1 := by
    unfold sgn full s32
    split_ifs <;> rfl
  rw [← hsign]
  exact exec_of_planOf_value s e .sgn _ h rfl

/-! ### Commands of one access -/

@[simp] theorem State.flagNotSquare_false (s : State) : s.flagNotSquare false = s := by
  rw [State.flagNotSquare, Bool.or_false]

/-- A command of one in-bounds access makes it and is done (spec/10_state.md R37, R38). -/
theorem exec_of_planOf_access (s : State) (e : Engine) (i : Instr) (a : Access) (h : s.accepted e)
    (hplan : planOf i s e = .draw false [a]) (ha : e.inBounds a.x a.y = true) :
    exec i s = .next (s.access e a).done := by
  obtain ⟨he, hpos⟩ := h
  rw [exec_eq_perform, perform_draw s e _ false [a] he hpos hplan (by simpa using ha), State.flagNotSquare_false]
  rfl

theorem exec_setpix (c : Byte) (s : State) (e : Engine) (h : s.accepted e) (hin : e.inBounds e.c0 e.c1 = true) :
    exec (.setpix c) s = .next (s.writeByte (e.offset e.c0 e.c1) c).done :=
  exec_of_planOf_access s e (.setpix c) (.plot e.c0 e.c1 c) h rfl hin

theorem exec_getpix (s : State) (e : Engine) (h : s.accepted e) (hin : e.inBounds e.c0 e.c1 = true) :
    exec .getpix s = .next (s.setResult ((s.readByte (e.offset e.c0 e.c1)).setWidth 32)).done :=
  exec_of_planOf_access s e .getpix (.fetch e.c0 e.c1) h rfl hin

/-- Settles O28: the one write, read at its own offset and at another. -/
theorem setpixWritesPixel : Obligations.SetpixWritesPixel := by
  intro c s e h hin
  refine ⟨_, exec_setpix c s e h hin, rfl, ?_, fun o ho => ?_⟩
  · rintro x y ⟨rfl, rfl⟩
    exact (s.readByte_writeByte ..).trans (if_pos rfl)
  · exact (s.readByte_writeByte ..).trans (if_neg (ho e.c0 e.c1 ⟨rfl, rfl⟩))

/-- Settles O29: the one fetch. -/
theorem getpixReadsPixel : Obligations.GetpixReadsPixel :=
  fun s e h hin => exec_getpix s e h hin

/-! ### One command line with moves after it (spec/30_encoding.md R101) -/

/-- The state in which the command of a line runs: the operands written, the CMD write accepted, the moves `rest` still to
come. -/
def State.issued (s : State) (i : Instr) (os : List Int) (rest : List Action) : State :=
  ((s.popped rest).setOperands 0 os).start (encode i)

/-- A `WAIT` for a command that completes sees STATUS right after it. -/
theorem waitIdle_of_runCommand (s t : State) (h : s.runCommand = .next t) : s.waitIdle = .next (t.see t.statusWord) := by
  rw [State.waitIdle, h]

/-- An accepted CMD write and its `WAIT`, whatever moves come after them, are the command, if it completes, and one reading
of STATUS. -/
theorem run_writeCmd_wait (s t : State) (i : Instr) (rest : List Action) (hidle : s.engine = none)
    (herr : s.err = false) (hscript : s.script = .write 0x00 (encode i) :: .wait :: rest)
    (hexec : exec i ((s.popped rest).start (encode i)) = .next t) : core.run 2 s = .next (t.see t.statusWord) := by
  have hstart : step s = .next ((s.popped (.wait :: rest)).start (encode i)) := by
    rw [step_writeReg s (.wait :: rest) .cmd _ hscript]
    exact congrArg _ (writeCmd_accepted _ _ hidle herr)
  have hwait : step ((s.popped (.wait :: rest)).start (encode i)) = ((s.popped rest).start (encode i)).waitIdle :=
    step_wait _ rest rfl
  rw [run_next 1 s _ hstart, run_one, hwait]
  exact waitIdle_of_runCommand _ t ((runCommand_ok _ _ i rfl (decodeOfEncode i)).trans hexec)

/-- A command line that is accepted and completes: its operand writes, then its CMD write and `WAIT`. -/
theorem run_commandLine (s t : State) (i : Instr) (os : List Int) (rest : List Action) (hlen : os.length ≤ 4)
    (hidle : s.engine = none) (herr : s.err = false) (hscript : s.script = (Line.command i os).expand ++ rest)
    (hexec : exec i (s.issued i os rest) = .next t) : core.run (os.length + 2) s = .next (t.see t.statusWord) := by
  rw [Line.expand, List.append_assoc] at hscript
  rw [State.issued] at hexec
  rw [run_add, run_operandWrites s 0 os _ (by omega) hidle hscript]
  rw [setOperands_eq _ os hlen] at hexec ⊢
  exact run_writeCmd_wait _ t i rest hidle herr rfl hexec

/-! ### A pixel written and read back (R151) -/

/-- A coordinate written to an operand register is read back by the coordinate view (spec/10_state.md R22). -/
theorem coord_trunc32 (x : Int) (hlow : -32768 ≤ x) (hhigh : x ≤ 32767) : coord (trunc32 x) = x := by
  rw [(coordIsSignedLowHalf (trunc32 x)).1, ← BitVec.setWidth_eq_extractLsb' (by decide), BitVec.toInt_setWidth, trunc32,
    BitVec.toNat_ofInt, Int.bmod_def]
  omega

/-- A point of the block's geometry that a command line can name: its coordinates are not negative and fit the coordinate
view. -/
structure State.HasPoint (s : State) (x y : Int) : Prop where
  column : 0 ≤ x ∧ x < s.width.toNat ∧ x ≤ 32767
  row : 0 ≤ y ∧ y < s.height.toNat ∧ y ≤ 32767

/-- What the CMD write of a command line with the operands `x`, `y` latches (spec/10_state.md R36). -/
def State.latchedPoint (s : State) (x y : Int) : Engine := (s.setOperands 0 [x, y]).latch

theorem State.issued_accepted (s : State) (i : Instr) (x y : Int) (rest : List Action) :
    (s.issued i [x, y] rest).accepted (s.latchedPoint x y) := ⟨rfl, rfl⟩

section
variable {s : State} {x y : Int} (hpoint : s.HasPoint x y)
include hpoint

theorem State.HasPoint.c0_latchedPoint : (s.latchedPoint x y).c0 = x := by
  obtain ⟨hx0, -, hx⟩ := hpoint.column
  exact coord_trunc32 x (by omega) hx

theorem State.HasPoint.c1_latchedPoint : (s.latchedPoint x y).c1 = y := by
  obtain ⟨hy0, -, hy⟩ := hpoint.row
  exact coord_trunc32 y (by omega) hy

theorem State.HasPoint.inBounds_latchedPoint :
    (s.latchedPoint x y).inBounds (s.latchedPoint x y).c0 (s.latchedPoint x y).c1 = true := by
  obtain ⟨hx0, hxw, -⟩ := hpoint.column
  obtain ⟨hy0, hyh, -⟩ := hpoint.row
  rw [hpoint.c0_latchedPoint, hpoint.c1_latchedPoint]
  exact (Engine.inBounds_iff _ x y).2 ⟨⟨hx0, hxw⟩, hy0, hyh⟩

theorem State.HasPoint.offset_latchedPoint :
    (s.latchedPoint x y).offset (s.latchedPoint x y).c0 (s.latchedPoint x y).c1 =
      (y * s.width.toNat + x).toNat := by
  rw [hpoint.c0_latchedPoint, hpoint.c1_latchedPoint]
  rfl

variable (hidle : s.engine = none) (herr : s.err = false) (rest : List Action)
include hidle herr

/-- The line SETPIX leaves an idle block without an error, and the colour at its point. -/
theorem run_setpixLine (c : Byte) (hscript : s.script = (Line.command (.setpix c) [x, y]).expand ++ rest) :
    ∃ t : State, core.run 4 s = .next t ∧ t.engine = none ∧ t.err = false ∧ t.ovr = s.ovr ∧ t.script = rest ∧
      t.width = s.width ∧ t.height = s.height ∧ t.readByte (y * s.width.toNat + x).toNat = c := by
  have hexec := exec_setpix c _ _ (s.issued_accepted (.setpix c) x y rest) hpoint.inBounds_latchedPoint
  rw [hpoint.offset_latchedPoint] at hexec
  exact ⟨_, run_commandLine s _ _ [x, y] rest (Nat.le_add_left 2 2) hidle herr hscript hexec, rfl, herr, rfl, rfl, rfl,
    rfl, (State.readByte_writeByte ..).trans (if_pos rfl)⟩

/-- The line GETPIX leaves an idle block without an error, and its point's byte in RESULT. -/
theorem run_getpixLine (hscript : s.script = (Line.command .getpix [x, y]).expand ++ rest) :
    ∃ t : State, core.run 4 s = .next t ∧ t.engine = none ∧ t.err = false ∧ t.ovr = s.ovr ∧ t.script = rest ∧
      t.result = (s.readByte (y * s.width.toNat + x).toNat).setWidth 32 := by
  have hexec := exec_getpix _ _ (s.issued_accepted .getpix x y rest) hpoint.inBounds_latchedPoint
  rw [hpoint.offset_latchedPoint] at hexec
  exact ⟨_, run_commandLine s _ _ [x, y] rest (Nat.le_add_left 2 2) hidle herr hscript hexec, rfl, herr, rfl, rfl, rfl⟩

end

/-- Settles O31: the first line leaves the geometry, so the second one reads the byte that the first one wrote. -/
theorem setThenGet : Obligations.SetThenGet := by
  intro s x y c hidle herr hx0 hxw hx hy0 hyh hy hscript
  have hpoint : s.HasPoint x y := ⟨⟨hx0, hxw, hx⟩, hy0, hyh, hy⟩
  obtain ⟨u, hset, huidle, huerr, huovr, huscript, hwidth, hheight, hbyte⟩ :=
    run_setpixLine hpoint hidle herr (assemble [.command .getpix [x, y]]) c hscript
  have hpoint' : u.HasPoint x y := ⟨hwidth ▸ hpoint.column, hheight ▸ hpoint.row⟩
  obtain ⟨t, hget, htidle, hterr, htovr, htscript, hresult⟩ := run_getpixLine hpoint' huidle huerr [] huscript
  rw [hwidth, hbyte] at hresult
  refine ⟨t, ?_, hresult, by rw [State.ended, htscript]; rfl, htidle, hterr, htovr.trans huovr⟩
  calc core.run (4 + 4) s = core.run 4 u := by rw [run_add, hset]
    _ = .next t := hget

end Sys2Proof.Machine
end

section
/-! PROOFS. The range of the points that commands access (spec/41_pixel_surface_signstep.md R145): a line, a rectangle or
the fill of one stays in the box of its corners, and a circle within its radius of its centre. -/

namespace Sys2Proof.Machine

/-! ### Lists of accesses that stay in a box -/

/-- Every access of the list is at a point of the box with the corners `(x, y)` and `(x + run, y + rise)`. -/
def InBox (x y run rise : Int) (S : List Access) : Prop := ∀ a ∈ S, boxPix x y run rise a.x a.y

theorem inBox_nil {x y run rise : Int} : InBox x y run rise [] := nofun

/-- A box holds its first corner. -/
theorem boxPix_start (x y run rise : Int) : boxPix x y run rise x y := by omega

theorem InBox.append {x y run rise : Int} {S T : List Access} (hS : InBox x y run rise S)
    (hT : InBox x y run rise T) : InBox x y run rise (S ++ T) := List.forall_mem_append.2 ⟨hS, hT⟩

theorem InBox.cons {x y run rise : Int} {a : Access} {S : List Access} (ha : boxPix x y run rise a.x a.y)
    (hS : InBox x y run rise S) : InBox x y run rise (a :: S) := List.forall_mem_cons.2 ⟨ha, hS⟩

/-- A box whose two corners lie in another box lies in it. -/
theorem InBox.mono {x y run rise x' y' run' rise' : Int} {S : List Access} (h : InBox x' y' run' rise' S)
    (hstart : boxPix x y run rise x' y') (hend : boxPix x y run rise (x' + run') (y' + rise')) :
    InBox x y run rise S := by
  intro a ha
  obtain ⟨hx, hy⟩ := h a ha
  exact ⟨by omega, by omega⟩

/-- The access with the axes exchanged. -/
def Access.transpose : Access → Access
  | .plot x y c => .plot y x c
  | .fetch x y => .fetch y x

@[simp] theorem Access.transpose_x (a : Access) : a.transpose.x = a.y := by cases a <;> rfl

@[simp] theorem Access.transpose_y (a : Access) : a.transpose.y = a.x := by cases a <;> rfl

theorem InBox.transpose {x y run rise : Int} {S : List Access} (h : InBox x y run rise S) :
    InBox y x rise run (S.map Access.transpose) := by
  intro b hb
  obtain ⟨a, ha, rfl⟩ := List.mem_map.1 hb
  simpa [and_comm] using h a ha

/-! ### Lines -/

/-- As many steps of the sign of `d` as its magnitude says, or fewer, stay between the start and the end. -/
theorem between_sgn_mul (x d : Int) (k : Nat) (hk : k ≤ d.natAbs) : between (x + sgn d * k) x (x + d) := by
  unfold sgn
  split_ifs <;> omega

/-- The loop of `VLine` makes one write a step, down the column. -/
theorem mem_vlineLoop (x y s : Int) (c : Byte) (n : Nat) (i : Int) (a : Access) (ha : a ∈ vlineLoop x y s c n i) :
    ∃ k : Nat, k ≤ n ∧ a.x = x ∧ a.y = y + (i + s * k) := by
  induction n generalizing i with
  | zero => cases ha
  | succ n ih =>
    rcases List.mem_cons.1 ha with rfl | ha
    · exact ⟨1, by omega, rfl, by simp [Access.y]⟩
    · obtain ⟨k, hk, hx, hy⟩ := ih (i + s) ha
      exact ⟨k + 1, by omega, hx, by rw [hy]; push_cast; ring⟩

theorem vline_inBox (x y d : Int) (c : Byte) : InBox x y 0 d (vline x y d c) := by
  refine .cons (boxPix_start ..) fun a ha => ?_
  obtain ⟨k, hk, hx, hy⟩ := mem_vlineLoop x y (sgn d) c d.natAbs 0 a ha
  rw [hx, hy, Int.zero_add]
  exact ⟨by omega, between_sgn_mul y d k hk⟩

theorem hlineLoop_eq_transpose (x y s : Int) (c : Byte) (n : Nat) (i : Int) :
    hlineLoop x y s c n i = (vlineLoop y x s c n i).map Access.transpose := by
  induction n generalizing i with
  | zero => rfl
  | succ n ih => simp [hlineLoop, vlineLoop, ih, Access.transpose]

theorem hline_inBox (x y d : Int) (c : Byte) : InBox x y d 0 (hline x y d c) := by
  have htranspose : hline x y d c = (vline y x d c).map Access.transpose := by
    simp [hline, vline, hlineLoop_eq_transpose, Access.transpose]
  rw [htranspose]
  exact (vline_inBox y x d c).transpose

/-- The run-major loop of `BLine` makes at most one step along each axis for each write. The accumulator, and what `n` more
additions make of it, leave room for `m` minor steps. -/
theorem mem_blineRun (M m sx sy : Int) (c : Byte) (hm : 0 ≤ m) (n j : Nat) (x y err : Int)
    (hroom : err + n * m < (j + 1) * M) (a : Access) (ha : a ∈ blineRun M m sx sy c n x y err) :
    ∃ k l : Nat, k ≤ n ∧ l ≤ j ∧ a.x = x + sx * k ∧ a.y = y + sy * l := by
  induction n generalizing j x y err with
  | zero => cases ha
  | succ n ih =>
    have hnm : 0 ≤ (n : Int) * m := by positivity
    rw [Nat.cast_succ, Int.add_mul, Int.one_mul] at hroom
    rw [blineRun] at ha
    split at ha
    · next hstep =>
      obtain ⟨j, rfl⟩ : ∃ j', j = j' + 1 := by
        refine Nat.exists_eq_succ_of_ne_zero ?_
        rintro rfl
        simp only [Nat.cast_zero, Int.zero_add, Int.one_mul] at hroom
        omega
      rcases List.mem_cons.1 ha with rfl | ha
      · exact ⟨1, 1, by omega, by omega, by simp [Access.x], by simp [Access.y]⟩
      · have hroom' : err + m - M + n * m < (j + 1) * M := by
          push_cast at hroom
          linarith
        obtain ⟨k, l, hk, hl, hx, hy⟩ := ih j _ _ _ hroom' ha
        exact ⟨k + 1, l + 1, by omega, by omega, by rw [hx]; push_cast; ring, by rw [hy]; push_cast; ring⟩
    · rcases List.mem_cons.1 ha with rfl | ha
      · exact ⟨1, 0, by omega, by omega, by simp [Access.x], by simp [Access.y]⟩
      · obtain ⟨k, l, hk, hl, hx, hy⟩ := ih j _ _ _ (by linarith) ha
        exact ⟨k + 1, l, by omega, hl, by rw [hx]; push_cast; ring, hy⟩

/-- The rise-major loop is the run-major one with the axes exchanged. -/
theorem blineRise_eq_transpose (M m sx sy : Int) (c : Byte) (n : Nat) (x y err : Int) :
    blineRise m M sx sy c n x y err = (blineRun M m sy sx c n y x err).map Access.transpose := by
  induction n generalizing x y err with
  | zero => rfl
  | succ n ih =>
    rw [blineRise, blineRun]
    split <;> simp [ih, Access.transpose]

theorem blineRun_inBox (x y dx dy : Int) (c : Byte) (h : dy.natAbs ≤ dx.natAbs) :
    InBox x y dx dy
      (.plot x y c :: blineRun dx.natAbs dy.natAbs (sgn dx) (sgn dy) c dx.natAbs x y (asr dy.natAbs 1)) := by
  refine .cons (boxPix_start ..) fun a ha => ?_
  by_cases hdx : dx = 0
  · subst hdx; cases ha
  · have hhalf := (asr_bounds dy.natAbs 1).1
    have hroom : asr dy.natAbs 1 + (dx.natAbs : Int) * dy.natAbs < (dy.natAbs + 1) * dx.natAbs := by
      rw [Int.add_mul, Int.mul_comm (dy.natAbs : Int)]
      omega
    obtain ⟨k, l, hk, hl, hx, hy⟩ := mem_blineRun _ _ _ _ c (Int.natCast_nonneg _) _ dy.natAbs x y _ hroom a ha
    rw [hx, hy]
    exact ⟨between_sgn_mul x dx k hk, between_sgn_mul y dy l hl⟩

theorem bline_inBox (x y dx dy : Int) (c : Byte) : InBox x y dx dy (bline x y dx dy c) := by
  unfold bline
  split
  · next h => exact blineRun_inBox x y dx dy c h
  · rw [blineRise_eq_transpose]
    exact (blineRun_inBox y x dy dx c (by omega)).transpose

/-! ### Rectangles -/

theorem rectOutline_inBox (x y run rise : Int) (c : Byte) : InBox x y run rise (rectOutline x y run rise c) :=
  ((((hline_inBox x y run c).mono (by omega) (by omega)).append
    ((hline_inBox x (y + rise) run c).mono (by omega) (by omega))).append
    ((vline_inBox x y rise c).mono (by omega) (by omega))).append
    ((vline_inBox (x + run) y rise c).mono (by omega) (by omega))

/-- The loop of `FillRect` makes each write in a column that is some steps on. -/
theorem mem_fillLoop (x y rise s : Int) (c : Byte) (n : Nat) (i : Int) (a : Access)
    (ha : a ∈ fillLoop x y rise s c n i) : ∃ k : Nat, k ≤ n ∧ a ∈ vline (x + (i + s * k)) y rise c := by
  induction n generalizing i with
  | zero => cases ha
  | succ n ih =>
    rcases List.mem_append.1 ha with ha | ha
    · exact ⟨1, by omega, by simpa using ha⟩
    · obtain ⟨k, hk, hmem⟩ := ih (i + s) ha
      refine ⟨k + 1, by omega, ?_⟩
      rwa [Nat.cast_succ, Int.mul_add, Int.mul_one, Int.add_comm (s * k), ← Int.add_assoc i]

theorem fillRect_inBox (x y run rise : Int) (c : Byte) : InBox x y run rise (fillRect x y run rise c) := by
  refine ((vline_inBox x y rise c).mono (by omega) (by omega)).append fun a ha => ?_
  obtain ⟨k, hk, hmem⟩ := mem_fillLoop x y rise (sgn run) c run.natAbs 0 a ha
  rw [Int.zero_add] at hmem
  have hcolumn := between_sgn_mul x run k hk
  exact (vline_inBox _ y rise c).mono (by omega) (by omega) a hmem

/-- The inset of an extent stays between its ends, those of 0 and 1 steps too (spec/43_rect.md R189). -/
theorem between_inset (x d : Int) :
    between (x + sgn d) x (x + d) ∧ between (x + sgn d + (d - 2 * sgn d)) x (x + d) := by
  unfold sgn
  split_ifs <;> omega

theorem outlinedRect_inBox (x y run rise : Int) (oc fc : Byte) :
    InBox x y run rise (outlinedRect x y run rise oc fc) := by
  obtain ⟨hx, hx'⟩ := between_inset x run
  obtain ⟨hy, hy'⟩ := between_inset y rise
  exact (rectOutline_inBox x y run rise oc).append ((fillRect_inBox _ _ _ _ fc).mono ⟨hx, hy⟩ ⟨hx', hy'⟩)

/-! ### Circles -/

theorem isqrtFrom_sq_le (m k s : Nat) (hs : s * s ≤ m) : isqrtFrom m k s * isqrtFrom m k s ≤ m := by
  induction k generalizing s with
  | zero => exact hs
  | succ k ih =>
    rw [isqrtFrom]
    split
    · next h => exact ih _ h
    · exact ih s hs

/-- No entry of TRIG_TABLE is above 65536, the first one (spec/45_trig_table_values.md R231). -/
theorem trigEntry_le (i : Nat) : trigEntry i ≤ 65536 := by
  have hsq : trigEntry i * trigEntry i ≤ 4096 * (1048576 - i * i) := isqrtFrom_sq_le _ _ 0 (Nat.zero_le _)
  exact Nat.mul_self_le_mul_self_iff.1 (hsq.trans (by omega))

/-- The same of the word that is read, at an index past the table too, where it is 0. -/
theorem s32_tabEntry_le (i : Nat) : s32 (tabEntry trigTable i) ≤ 65536 := by
  by_cases hi : i < Config.tableEntries
  · have hentry : tabEntry trigTable i = BitVec.ofNat 32 (trigEntry i) := by
      simp [tabEntry, trigTable, List.getD_eq_getElem?_getD, hi]
    have hle := trigEntry_le i
    rw [hentry, s32, BitVec.toInt_eq_toNat_bmod, BitVec.toNat_ofNat, Int.bmod_def]
    omega
  · rw [tabEntry, List.getD_eq_default _ _ (by rw [trigTable_length]; omega)]
    decide

/-- With TRIG_TABLE `diffY` never exceeds the radius (spec/44_circle.md R207). -/
theorem circleDY_le (r n : Int) (hr : 0 ≤ r) : circleDY trigTable r n ≤ r := by
  have hfloor := (asr_bounds (s32 (tabEntry trigTable (trigIndex n)) * r) 16).1
  have hentry := Int.mul_le_mul_of_nonneg_right (s32_tabEntry_le (trigIndex n)) hr
  unfold circleDY
  omega

/-- The eight points of an iteration are as far from the centre as its offsets say. -/
theorem octants_inBox (cx cy r dX dY : Int) (c : Byte) (hX : 0 ≤ dX ∧ dX ≤ r) (hY : 0 ≤ dY ∧ dY ≤ r) :
    InBox (cx - r) (cy - r) (2 * r) (2 * r) (octants cx cy dX dY c) := by
  intro a ha
  simp only [octants, List.mem_cons, List.not_mem_nil, or_false] at ha
  rcases ha with rfl | rfl | rfl | rfl | rfl | rfl | rfl | rfl <;> simp only [Access.x, Access.y] <;> omega

theorem circleLoop_inBox (cx cy r : Int) (c : Byte) (hr : 0 ≤ r) (fuel : Nat) (dX dY n : Int) (hX : 0 ≤ dX)
    (hY : dY ≤ r) :
    InBox (cx - r) (cy - r) (2 * r) (2 * r) (circleLoop trigTable cx cy r c fuel dX dY n) := by
  induction fuel generalizing dX dY n with
  | zero => exact inBox_nil
  | succ fuel ih =>
    rw [circleLoop]
    split
    · exact (octants_inBox cx cy r dX dY c (by omega) (by omega)).append
        (ih _ _ _ (by omega) (circleDY_le r _ hr))
    · exact inBox_nil

/-- A circle stays within its radius of its centre; with a negative radius there is none (R208). -/
theorem circle_inBox (cx cy r : Int) (c : Byte) :
    InBox (cx - r) (cy - r) (2 * r) (2 * r) (circle trigTable cx cy r c) := by
  unfold circle
  by_cases hr : 0 ≤ r
  · exact circleLoop_inBox cx cy r c hr _ 0 (r - 1) 0 (by omega) (by omega)
  · rw [show (r + 1).toNat = 0 by omega]
    exact inBox_nil

/-! ### Every command -/

/-- Half a delta is between 0 and the delta, and at most half as large (R211). -/
theorem tdiv_two_bounds (d : Int) : between (tdiv d 2) 0 d ∧ 2 * (tdiv d 2).natAbs ≤ d.natAbs := by
  rw [tdiv, Int.tdiv_eq_ediv, show Int.sign 2 = 1 from rfl]
  split_ifs <;> omega

/-- The range of R145 is a box. -/
theorem planOf_inBox (i : Instr) (s : State) (e : Engine) (htab : s.tv = true → s.tab = trigTable) :
    InBox (-65536) (-65536) 131071 131071 (planOf i s e).accesses := by
  have h0 : -32768 ≤ e.c0 ∧ e.c0 ≤ 32767 := coord_bounds e.l0
  have h1 : -32768 ≤ e.c1 ∧ e.c1 ≤ 32767 := coord_bounds e.l1
  have h2 : -32768 ≤ e.c2 ∧ e.c2 ≤ 32767 := coord_bounds e.l2
  have h3 : -32768 ≤ e.c3 ∧ e.c3 ≤ 32767 := coord_bounds e.l3
  cases i with
  | setpix | getpix => exact .cons (show boxPix _ _ _ _ e.c0 e.c1 by omega) inBox_nil
  | vline | vlinea => exact InBox.mono (vline_inBox _ _ _ _) (by omega) (by omega)
  | hline | hlinea => exact InBox.mono (hline_inBox _ _ _ _) (by omega) (by omega)
  | line | linea => exact InBox.mono (bline_inBox _ _ _ _ _) (by omega) (by omega)
  | rect | recta => exact InBox.mono (rectOutline_inBox _ _ _ _ _) (by omega) (by omega)
  | frect | frecta => exact InBox.mono (fillRect_inBox _ _ _ _ _) (by omega) (by omega)
  | orect | orecta => exact InBox.mono (outlinedRect_inBox _ _ _ _ _ _) (by omega) (by omega)
  | circle c =>
    rw [planOf, planCircle]
    cases htv : s.tv with
    | false => exact inBox_nil
    | true =>
      rw [htab htv]
      exact (circle_inBox e.c0 e.c1 e.c2 c).mono (by omega) (by omega)
  | circlea c =>
    rw [planOf, planCirclea]
    cases htv : s.tv with
    | false => exact inBox_nil
    | true =>
      rw [htab htv]
      have hx := tdiv_two_bounds (e.c2 - e.c0)
      have hy := tdiv_two_bounds (e.c3 - e.c1)
      exact (circle_inBox _ _ _ c).mono (by omega) (by omega)
  | tabrd => rw [planOf, planTabrd]; split_ifs <;> exact inBox_nil
  | fxdiv => rw [planOf, planFxdiv]; split_ifs <;> exact inBox_nil
  | _ => exact inBox_nil

/-- Settles O56: the range is the box that `planOf_inBox` names. -/
theorem accessPointsInRange : Obligations.AccessPointsInRange := by
  intro i s e htab a ha
  have hbox := planOf_inBox i s e htab a ha
  omega

end Sys2Proof.Machine
end

section
/-! PROOFS. The line rasterizer (spec/42_line.md): the access sequences of the three procedures in closed form (R160 to
R162, R169 to R171), and what the six line commands paint (R163 to R168). -/

namespace Sys2Proof.Machine

/-! ### The axis procedures (R160, R161) -/

/-- The first of `n + 1` values taken off. -/
theorem map_range_succ {α : Type} (n : Nat) (f : Nat → α) :
    (List.range (n + 1)).map f = f 0 :: (List.range n).map fun k => f (k + 1) := by
  rw [List.range_succ_eq_map, List.map_cons, List.map_map]; rfl

theorem vlineLoop_eq_map (x y s : Int) (c : Byte) (n : Nat) (i : Int) :
    vlineLoop x y s c n i = (List.range n).map fun k : Nat => .plot x (y + (i + s * (k + 1))) c := by
  induction n generalizing i with
  | zero => rfl
  | succ n ih =>
    rw [vlineLoop, ih, map_range_succ]
    push_cast
    ring_nf

theorem vline_eq_map (x y d : Int) (c : Byte) :
    vline x y d c = (List.range (d.natAbs + 1)).map fun k : Nat => .plot x (y + sgn d * k) c := by
  simp [vline, vlineLoop_eq_map, map_range_succ]

theorem hline_eq_transpose (x y d : Int) (c : Byte) : hline x y d c = (vline y x d c).map Access.transpose := by
  simp [hline, vline, hlineLoop_eq_transpose, Access.transpose]

theorem hline_eq_map (x y d : Int) (c : Byte) :
    hline x y d c = (List.range (d.natAbs + 1)).map fun k : Nat => .plot (x + sgn d * k) y c := by
  rw [hline_eq_transpose, vline_eq_map, List.map_map]; rfl

/-- Settles O32: each turn of the loop is one step of the sign on from the last. -/
theorem axisLineSequences : Obligations.AxisLineSequences :=
  fun x y d c => ⟨vline_eq_map x y d c, hline_eq_map x y d c⟩

/-! ### The general procedure (R162, R169) -/

/-- The whole magnitude in steps of the sign is the number itself. -/
theorem sgn_mul_natAbs (d : Int) : sgn d * d.natAbs = d := by
  unfold sgn
  split_ifs <;> omega

/-- Dividing in two goes, the first remainder carried over. -/
theorem ediv_add_emod_add_ediv (a b M : Int) (hM : M ≠ 0) : a / M + (a % M + b) / M = (a + b) / M := by
  calc a / M + (a % M + b) / M = (a % M + b + a / M * M) / M := by rw [Int.add_mul_ediv_right _ _ hM, Int.add_comm]
    _ = (a + b) / M := by rw [Int.add_right_comm, Int.add_comm (a % M), Int.ediv_mul_add_emod]

section
variable (M m sx sy : Int) (c : Byte) (hm : 0 ≤ m) (hmM : m ≤ M)
include hm hmM

/-- One turn of the loop: the one conditional subtraction reduces the accumulator modulo the major magnitude, and the
minor coordinate moves by the quotient (R169 (b)). -/
theorem blineRun_succ (n : Nat) (x y err : Int) (herr : 0 ≤ err) (herrM : err < M) :
    blineRun M m sx sy c (n + 1) x y err =
      .plot (x + sx) (y + sy * ((err + m) / M)) c
        :: blineRun M m sx sy c n (x + sx) (y + sy * ((err + m) / M)) ((err + m) % M) := by
  rw [blineRun]
  split
  · next hcarry =>
    have hquot : (err + m) / M = 1 := by
      rw [Int.ediv_eq_iff_of_pos (by omega)]; omega
    have hrem : (err + m) % M = err + m - M := by
      rw [Int.emod_def, hquot, Int.mul_one]
    rw [hquot, hrem, Int.mul_one]
  · next hcarry =>
    rw [Int.ediv_eq_zero_of_lt (by omega) (by omega), Int.emod_eq_of_lt (by omega) (by omega), Int.mul_zero,
      Int.add_zero]

/-- The loop in closed form: the quotients of its turns add up (R169 (c)). -/
theorem blineRun_eq_map (n : Nat) (x y err : Int) (herr : 0 ≤ err) (herrM : err < M) :
    blineRun M m sx sy c n x y err =
      (List.range n).map fun k : Nat => .plot (x + sx * (k + 1)) (y + sy * ((err + (k + 1) * m) / M)) c := by
  have hpos : 0 < M := by omega
  induction n generalizing x y err with
  | zero => rfl
  | succ n ih =>
    rw [blineRun_succ M m sx sy c hm hmM n x y err herr herrM,
      ih _ _ _ (Int.emod_nonneg _ hpos.ne') (Int.emod_lt_of_pos _ hpos), map_range_succ]
    congr 1
    · simp
    · refine List.map_congr_left fun k _ => ?_
      have hsum := ediv_add_emod_add_ediv (err + m) ((k + 1) * m) M hpos.ne'
      congr 1
      · push_cast; ring
      · rw [Int.add_assoc, ← Int.mul_add, hsum]
        push_cast
        ring_nf

end

theorem minorSteps_zero (M m : Nat) (h : m ≤ M) : minorSteps M m 0 = 0 := by
  rw [minorSteps, Nat.div_eq_zero_iff]; omega

/-- After all the major steps the minor coordinate has moved by its whole magnitude. -/
theorem minorSteps_self (M m : Nat) (h : m ≤ M) : minorSteps M m M = m := by
  by_cases hM : M = 0
  · obtain rfl : m = 0 := by omega
    subst hM; rfl
  · rw [minorSteps, Nat.mul_add_div (by omega), (Nat.div_eq_zero_iff).2 (by omega), Nat.add_zero]

theorem linePoint_runMajor (x y dx dy : Int) (k : Nat) (h : dy.natAbs ≤ dx.natAbs) :
    linePoint x y dx dy k = (x + sgn dx * k, y + sgn dy * minorSteps dx.natAbs dy.natAbs k) := if_pos h

/-- A line whose major axis is the rise is one whose major axis is the run, with the axes exchanged. -/
theorem linePoint_riseMajor (x y dx dy : Int) (k : Nat) (h : dx.natAbs < dy.natAbs) :
    linePoint x y dx dy k = (linePoint y x dy dx k).swap := by
  rw [linePoint_runMajor y x dy dx k h.le, linePoint, if_neg (by omega), Prod.swap]

theorem bline_runMajor_eq_map (x y dx dy : Int) (c : Byte) (h : dy.natAbs ≤ dx.natAbs) :
    .plot x y c :: blineRun dx.natAbs dy.natAbs (sgn dx) (sgn dy) c dx.natAbs x y (asr dy.natAbs 1) =
      (List.range (dx.natAbs + 1)).map fun k : Nat =>
        .plot (x + sgn dx * k) (y + sgn dy * minorSteps dx.natAbs dy.natAbs k) c := by
  rw [map_range_succ, minorSteps_zero _ _ h]
  congr 1
  · simp
  · by_cases hdx : dx = 0
    · subst hdx; rfl
    · have hhalf : asr dy.natAbs 1 = (dy.natAbs / 2 : Nat) := by simp [asr, Int.shiftRight_eq_div_pow]
      rw [hhalf, blineRun_eq_map _ _ _ _ c (by omega) (by omega) _ x y _ (by omega) (by omega)]
      refine List.map_congr_left fun k _ => ?_
      rw [minorSteps, Nat.add_comm ((k + 1) * dy.natAbs)]
      push_cast
      rfl

theorem bline_eq_map (x y dx dy : Int) (c : Byte) :
    bline x y dx dy c = (List.range (max dx.natAbs dy.natAbs + 1)).map fun k =>
      .plot (linePoint x y dx dy k).1 (linePoint x y dx dy k).2 c := by
  unfold bline
  split
  · next h => simp only [linePoint_runMajor x y dx dy _ h, max_eq_left h, bline_runMajor_eq_map x y dx dy c h]
  · next h =>
    have hlt : dx.natAbs < dy.natAbs := by omega
    have hrun := congrArg (List.map Access.transpose) (bline_runMajor_eq_map y x dy dx c hlt.le)
    rw [List.map_cons, List.map_map] at hrun
    rw [blineRise_eq_transpose, max_eq_right hlt.le]
    simp only [linePoint_riseMajor x y dx dy _ hlt, linePoint_runMajor y x dy dx _ hlt.le]
    exact hrun

theorem linePoint_zero (x y dx dy : Int) : linePoint x y dx dy 0 = (x, y) := by
  rcases Nat.lt_or_ge dx.natAbs dy.natAbs with h | h
  · simp [linePoint_riseMajor x y dx dy 0 h, linePoint_runMajor y x dy dx 0 h.le, minorSteps_zero _ _ h.le]
  · simp [linePoint_runMajor x y dx dy 0 h, minorSteps_zero _ _ h]

theorem linePoint_last (x y dx dy : Int) :
    linePoint x y dx dy (max dx.natAbs dy.natAbs) = (x + dx, y + dy) := by
  rcases Nat.lt_or_ge dx.natAbs dy.natAbs with h | h
  · rw [max_eq_right h.le, linePoint_riseMajor x y dx dy _ h, linePoint_runMajor y x dy dx _ h.le,
      minorSteps_self _ _ h.le, sgn_mul_natAbs, sgn_mul_natAbs, Prod.swap]
  · rw [max_eq_left h, linePoint_runMajor x y dx dy _ h, minorSteps_self _ _ h, sgn_mul_natAbs, sgn_mul_natAbs]

/-- Settles O33: the closed form of the loop, read at its first and last step. -/
theorem lineSequence : Obligations.LineSequence :=
  fun x y dx dy c => ⟨bline_eq_map x y dx dy c, linePoint_zero x y dx dy, linePoint_last x y dx dy⟩

/-- Settles O34: along an axis the minor coordinate's sign is 0, so it never moves. -/
theorem axisLinesAgree : Obligations.AxisLinesAgree := by
  intro x y d c
  have hsgn : sgn 0 = 0 := rfl
  refine ⟨?horizontal, fun hd => ?vertical⟩
  case horizontal =>
    have hpoint (k : Nat) : linePoint x y d 0 k = (x + sgn d * k, y) := by
      rw [linePoint_runMajor x y d 0 k (by omega), hsgn, Int.zero_mul, Int.add_zero]
    simp only [bline_eq_map, hline_eq_map, hpoint, Int.natAbs_zero, Nat.max_zero]
  case vertical =>
    have hpoint (k : Nat) : linePoint x y 0 d k = (x, y + sgn d * k) := by
      rw [linePoint_riseMajor x y 0 d k (by omega), linePoint_runMajor y x d 0 k (by omega), hsgn, Int.zero_mul,
        Int.add_zero, Prod.swap]
    simp only [bline_eq_map, vline_eq_map, hpoint, Int.natAbs_zero, Nat.zero_max]

/-- Settles O35: both sequences, run. -/
theorem reversedLineDiffers : Obligations.ReversedLineDiffers := ⟨by decide, by decide⟩

/-! ### What a list of accesses does to the bytes (spec/20_memory.md R64, R68) -/

/-- A byte at which no access is made reads as before. -/
theorem readByte_accessed_elsewhere (s : State) (e : Engine) (S : List Access) (o : Nat)
    (ho : ∀ a ∈ S, o ≠ e.offset a.x a.y) : (s.accessed e S).readByte o = s.readByte o := by
  induction S generalizing s with
  | nil => rfl
  | cons a S ih =>
    rw [State.accessed_cons, ih _ fun b hb => ho b (by simp [hb])]
    cases a with
    | plot x y c => exact (s.readByte_writeByte ..).trans (if_neg (ho (.plot x y c) (by simp)))
    | fetch x y => rfl

/-- After writes of one colour, a byte at which one of them is made has that colour. -/
theorem readByte_accessed_colour (s : State) (e : Engine) (S : List Access) (c : Byte)
    (hS : ∀ a ∈ S, a = .plot a.x a.y c) (a : Access) (ha : a ∈ S) :
    (s.accessed e S).readByte (e.offset a.x a.y) = c := by
  induction S generalizing s a with
  | nil => cases ha
  | cons b S ih =>
    have htail : ∀ a ∈ S, a = .plot a.x a.y c := fun a ha => hS a (by simp [ha])
    rw [State.accessed_cons]
    by_cases hagain : ∃ a' ∈ S, e.offset a.x a.y = e.offset a'.x a'.y
    · obtain ⟨a', ha', hoff⟩ := hagain
      rw [hoff, ih _ htail a' ha']
    · push Not at hagain
      rw [readByte_accessed_elsewhere _ e S _ hagain]
      obtain rfl : a = b := (List.mem_cons.1 ha).resolve_right fun ha => hagain a ha rfl
      rw [hS a (by simp)]
      exact (s.readByte_writeByte ..).trans (if_pos rfl)

/-! ### Access sequences that paint a set of points -/

/-- The list consists of writes of the colour `c`, at the points of `pix` and at all of them. -/
def Paints (S : List Access) (pix : Int → Int → Prop) (c : Byte) : Prop :=
  ∀ a, a ∈ S ↔ pix a.x a.y ∧ a = .plot a.x a.y c

section
variable {S : List Access} {pix pix' : Int → Int → Prop} {c : Byte}

theorem Paints.congr (h : Paints S pix c) (hpix : ∀ x y, pix x y ↔ pix' x y) : Paints S pix' c :=
  fun a => (h a).trans (and_congr_left' (hpix a.x a.y))

/-- With the axes of the sequence exchanged, the axes of its points are. -/
theorem Paints.transpose (h : Paints S pix c) : Paints (S.map Access.transpose) (fun x y => pix y x) c := by
  intro a
  rw [List.mem_map]
  constructor
  · rintro ⟨b, hb, rfl⟩
    obtain ⟨hpix, hplot⟩ := (h b).1 hb
    rw [hplot]
    exact ⟨hpix, rfl⟩
  · rintro ⟨hpix, hplot⟩
    exact ⟨.plot a.y a.x c, (h _).2 ⟨hpix, rfl⟩, hplot.symm⟩

/-- What the accesses of such a list make of a state is `painted`, the command being done. -/
theorem Paints.painted (h : Paints S pix c) (s : State) (e : Engine) : painted s (s.accessed e S).done e pix c := by
  have hplot : ∀ a ∈ S, a = .plot a.x a.y c := fun a ha => ((h a).1 ha).2
  refine ⟨?frame, fun x y hxy => ?points, fun o ho => ?elsewhere⟩
  case frame =>
    have hframe := s.accessed_frame e S
    rw [s.accessed_plots_result e S fun a ha => ⟨_, _, _, hplot a ha⟩] at hframe
    exact congrArg State.done hframe
  case points =>
    exact readByte_accessed_colour s e S c hplot (.plot x y c) ((h _).2 ⟨hxy, rfl⟩)
  case elsewhere =>
    exact readByte_accessed_elsewhere s e S o fun a ha => ho a.x a.y ((h a).1 ha).1

/-- An accepted command whose accesses lie in a box with its corners in bounds paints their points. -/
theorem exec_painted {s : State} {e : Engine} {i : Instr} {x y run rise : Int} (h : s.accepted e)
    (hplan : planOf i s e = .draw false S) (hpaints : Paints S pix c) (hbox : InBox x y run rise S)
    (hstart : e.inBounds x y = true) (hend : e.inBounds (x + run) (y + rise) = true) :
    ∃ t, exec i s = .next t ∧ painted s t e pix c := by
  obtain ⟨he, hpos⟩ := h
  rw [Engine.inBounds_iff] at hstart hend
  have hS : ∀ a ∈ S, e.inBounds a.x a.y = true := by
    intro a ha
    obtain ⟨hx, hy⟩ := hbox a ha
    rw [Engine.inBounds_iff]
    omega
  refine ⟨_, ?_, hpaints.painted s e⟩
  rw [exec_eq_perform, perform_draw s e _ false S he hpos hplan hS, State.flagNotSquare_false]

end

/-- One write for each of `n + 1` points. -/
theorem paints_map_range (n : Nat) (P : Nat → Int × Int) (c : Byte) :
    Paints ((List.range (n + 1)).map fun k => .plot (P k).1 (P k).2 c)
      (fun x y => ∃ k, k ≤ n ∧ (x, y) = P k) c := by
  intro a
  simp only [List.mem_map, List.mem_range, Nat.lt_succ_iff]
  constructor
  · rintro ⟨k, hk, rfl⟩
    exact ⟨⟨k, hk, rfl⟩, rfl⟩
  · rintro ⟨⟨k, hk, hP⟩, hplot⟩
    exact ⟨k, hk, by rw [← hP, ← hplot]⟩

/-- The points between two ends are those of the steps of the sign from one to the other. -/
theorem between_iff_exists_step (p y d : Int) :
    between p y (y + d) ↔ ∃ k : Nat, k ≤ d.natAbs ∧ p = y + sgn d * k := by
  constructor
  · intro h
    refine ⟨(p - y).natAbs, by omega, ?_⟩
    unfold sgn
    split_ifs <;> omega
  · rintro ⟨k, hk, rfl⟩
    exact between_sgn_mul y d k hk

theorem vline_paints (x y d : Int) (c : Byte) :
    Paints (vline x y d c) (fun px py => px = x ∧ between py y (y + d)) c := by
  rw [vline_eq_map]
  refine (paints_map_range d.natAbs (fun k => (x, y + sgn d * k)) c).congr fun px py => ?_
  simp only [Prod.mk.injEq, between_iff_exists_step]
  tauto

theorem hline_paints (x y d : Int) (c : Byte) :
    Paints (hline x y d c) (fun px py => py = y ∧ between px x (x + d)) c := by
  rw [hline_eq_transpose]
  exact (vline_paints y x d c).transpose

theorem bline_paints (x y dx dy : Int) (c : Byte) : Paints (bline x y dx dy c) (linePix x y dx dy) c := by
  rw [bline_eq_map]
  exact paints_map_range _ (linePoint x y dx dy) c

/-! ### The commands (R163 to R168) -/

/-- Settles O36: the column's two ends are the corners of its box. -/
theorem verticalLinesDraw : Obligations.VerticalLinesDraw := by
  intro c s e h hstart
  refine ⟨fun hend => ?delta, fun hend => ?absolute⟩
  case delta =>
    exact exec_painted (i := .vline c) h rfl (vline_paints _ _ _ _) (vline_inBox _ _ _ _) hstart (by rwa [Int.add_zero])
  case absolute =>
    have hpaints := vline_paints e.c0 e.c1 (e.c2 - e.c1) c
    rw [add_sub_cancel] at hpaints
    exact exec_painted (i := .vlinea c) h rfl hpaints (vline_inBox _ _ _ _) hstart
      (by rwa [Int.add_zero, add_sub_cancel])

/-- Settles O37: the row's two ends are the corners of its box. -/
theorem horizontalLinesDraw : Obligations.HorizontalLinesDraw := by
  intro c s e h hstart
  refine ⟨fun hend => ?delta, fun hend => ?absolute⟩
  case delta =>
    exact exec_painted (i := .hline c) h rfl (hline_paints _ _ _ _) (hline_inBox _ _ _ _) hstart (by rwa [Int.add_zero])
  case absolute =>
    have hpaints := hline_paints e.c0 e.c1 (e.c2 - e.c0) c
    rw [add_sub_cancel] at hpaints
    exact exec_painted (i := .hlinea c) h rfl hpaints (hline_inBox _ _ _ _) hstart
      (by rwa [Int.add_zero, add_sub_cancel])

/-- Settles O38: the line stays in the box of its two ends (R145). -/
theorem generalLinesDraw : Obligations.GeneralLinesDraw := by
  intro c s e h hstart
  refine ⟨fun hend => ?delta, fun hend => ?absolute⟩
  case delta =>
    exact exec_painted (i := .line c) h rfl (bline_paints _ _ _ _ _) (bline_inBox _ _ _ _ _) hstart hend
  case absolute =>
    exact exec_painted (i := .linea c) h rfl (bline_paints _ _ _ _ _) (bline_inBox _ _ _ _ _) hstart
      (by rwa [add_sub_cancel, add_sub_cancel])

end Sys2Proof.Machine
end

section
/-! PROOFS. The rectangle sequencer (spec/43_rect.md): the point sets that the three procedures paint (R180 to R182), and
what the six rectangle commands leave in the framebuffer (R183 to R189). -/

namespace Sys2Proof.Machine

/-! ### Painted sets put together -/

section
variable {S T : List Access} {pix pix' : Int → Int → Prop} {c c' : Byte} {s m t : State} {e : Engine} {i : Instr}
  {x y run rise : Int}

theorem Paints.append (hS : Paints S pix c) (hT : Paints T pix' c) :
    Paints (S ++ T) (fun x y => pix x y ∨ pix' x y) c := fun a => by
  rw [List.mem_append, hS a, hT a, or_and_right]

/-- Sequences of one colour, one for each entry of a list, paint the union of their points. -/
theorem Paints.flatMap {α : Type} {F : α → List Access} {P : α → Int → Int → Prop} (h : ∀ k, Paints (F k) (P k) c)
    (l : List α) : Paints (l.flatMap F) (fun x y => ∃ k ∈ l, P k x y) c := by
  intro a
  simp only [List.mem_flatMap, h _ a]
  constructor
  · rintro ⟨k, hk, hpix, hplot⟩
    exact ⟨⟨k, hk, hpix⟩, hplot⟩
  · rintro ⟨⟨k, hk, hpix⟩, hplot⟩
    exact ⟨k, hk, hpix, hplot⟩

/-- A box with its two corners in bounds has all its points in bounds (spec/41_pixel_surface_signstep.md R142). -/
theorem Engine.inBounds_of_boxPix (e : Engine) {px py : Int} (hstart : e.inBounds x y = true)
    (hend : e.inBounds (x + run) (y + rise) = true) (hbox : boxPix x y run rise px py) : e.inBounds px py = true := by
  rw [Engine.inBounds_iff] at hstart hend ⊢
  omega

/-- An accepted command that first paints one set in one colour and then another in another passes through a state in
which only the first is painted. -/
theorem exec_painted_append (h : s.accepted e) (hplan : planOf i s e = .draw false (S ++ T)) (hS : Paints S pix c)
    (hT : Paints T pix' c') (hbox : InBox x y run rise (S ++ T)) (hstart : e.inBounds x y = true)
    (hend : e.inBounds (x + run) (y + rise) = true) :
    ∃ m t, exec i s = .next t ∧ painted s m e pix c ∧ painted m t e pix' c' := by
  obtain ⟨he, hpos⟩ := h
  have hperform := perform_draw s e _ false _ he hpos hplan fun a ha => e.inBounds_of_boxPix hstart hend (hbox a ha)
  have htwo : ((s.accessed e (S ++ T)).flagNotSquare false).done = ((s.accessed e S).done.accessed e T).done := by
    simp only [State.flagNotSquare_false, State.accessed_append, State.done, State.accessed_setEngine,
      State.setEngine_setEngine]
  exact ⟨_, _, by rw [exec_eq_perform, hperform, htwo], hS.painted s e, hT.painted _ e⟩

/-- Nothing but the framebuffer and the engine's working state changes in two paintings. -/
theorem painted_frame_trans (hfirst : painted s m e pix c) (hsecond : painted m t e pix' c') :
    t = { s with mem := t.mem, engine := none } := by
  obtain ⟨hm, -, -⟩ := hfirst
  obtain ⟨ht, -, -⟩ := hsecond
  rw [ht, hm]

/-- A byte that neither of two paintings reaches reads as before. -/
theorem readByte_painted_trans (hfirst : painted s m e pix c) (hsecond : painted m t e pix' c') (o : Nat)
    (ho : ∀ x y, pix x y ∨ pix' x y → o ≠ e.offset x y) : t.readByte o = s.readByte o := by
  obtain ⟨-, -, hm⟩ := hfirst
  obtain ⟨-, -, ht⟩ := hsecond
  rw [ht o fun x y hxy => ho x y (.inr hxy), hm o fun x y hxy => ho x y (.inl hxy)]

/-- Another in-bounds point keeps its colour, since distinct points have distinct bytes (spec/20_memory.md R74). -/
theorem readByte_painted_other (h : painted s t e pix c) (hpix : ∀ x y, pix x y → e.inBounds x y = true)
    (hxy : e.inBounds x y = true) (hnot : ¬ pix x y) : t.readByte (e.offset x y) = s.readByte (e.offset x y) := by
  obtain ⟨-, -, helsewhere⟩ := h
  refine helsewhere _ fun x' y' hpix' hoff => hnot ?_
  obtain ⟨-, -, -, hdistinct⟩ := inBoundsOffsetsDistinct e x y x' y' hxy (hpix x' y' hpix')
  obtain ⟨rfl, rfl⟩ := hdistinct hoff
  exact hpix'

end

/-! ### The procedures (R180, R181) -/

theorem rectOutline_paints (x y run rise : Int) (c : Byte) :
    Paints (rectOutline x y run rise c) (outlinePix x y run rise) c := by
  refine ((((hline_paints x y run c).append (hline_paints x (y + rise) run c)).append (vline_paints x y rise c)).append
    (vline_paints (x + run) y rise c)).congr fun px py => ?_
  omega

theorem fillLoop_eq_flatMap (x y rise s : Int) (c : Byte) (n : Nat) (i : Int) :
    fillLoop x y rise s c n i = (List.range n).flatMap fun k : Nat => vline (x + (i + s * (k + 1))) y rise c := by
  induction n generalizing i with
  | zero => rfl
  | succ n ih =>
    rw [fillLoop, ih, List.range_succ_eq_map, List.flatMap_cons, List.flatMap_map]
    push_cast
    ring_nf

/-- The fill is one column for each step along the run. -/
theorem fillRect_eq_flatMap (x y run rise : Int) (c : Byte) :
    fillRect x y run rise c =
      (List.range (run.natAbs + 1)).flatMap fun k : Nat => vline (x + sgn run * k) y rise c := by
  simp [fillRect, fillLoop_eq_flatMap, List.range_succ_eq_map, List.flatMap_map]

theorem fillRect_paints (x y run rise : Int) (c : Byte) :
    Paints (fillRect x y run rise c) (boxPix x y run rise) c := by
  rw [fillRect_eq_flatMap]
  refine (Paints.flatMap (fun k : Nat => vline_paints (x + sgn run * k) y rise c) _).congr fun px py => ?_
  simp only [boxPix, between_iff_exists_step px, List.mem_range, Nat.lt_succ_iff, ← and_assoc, exists_and_right]

/-! ### The commands (R183 to R188) -/

/-- Settles O39: the four sides are the outline, and lie in the box of its corners (R145). -/
theorem outlinesDraw : Obligations.OutlinesDraw := by
  intro c s e h hstart
  refine ⟨fun hend => ?delta, fun hend => ?absolute⟩
  case delta =>
    exact exec_painted (i := .rect c) h rfl (rectOutline_paints _ _ _ _ _) (rectOutline_inBox _ _ _ _ _) hstart hend
  case absolute =>
    exact exec_painted (i := .recta c) h rfl (rectOutline_paints _ _ _ _ _) (rectOutline_inBox _ _ _ _ _) hstart
      (by rwa [add_sub_cancel, add_sub_cancel])

/-- Settles O40: the columns, one for each step along the run, make up the box. -/
theorem filledBoxesDraw : Obligations.FilledBoxesDraw := by
  intro c s e h hstart
  refine ⟨fun hend => ?delta, fun hend => ?absolute⟩
  case delta =>
    exact exec_painted (i := .frect c) h rfl (fillRect_paints _ _ _ _ _) (fillRect_inBox _ _ _ _ _) hstart hend
  case absolute =>
    exact exec_painted (i := .frecta c) h rfl (fillRect_paints _ _ _ _ _) (fillRect_inBox _ _ _ _ _) hstart
      (by rwa [add_sub_cancel, add_sub_cancel])

/-- The inset lies in the box, that of an extent of 0 or 1 steps too (R189). -/
theorem boxPix_of_insetPix {x y run rise px py : Int} (h : insetPix x y run rise px py) :
    boxPix x y run rise px py := by
  obtain ⟨hpx, hpy⟩ := h
  have hx := between_inset x run
  have hy := between_inset y rise
  exact ⟨by omega, by omega⟩

/-- Settles O41: the outline is painted first and the inset over it, so that an outline point keeps its colour only where
the inset has no point. -/
theorem outlinedBoxesDraw : Obligations.OutlinedBoxesDraw := by
  intro c c2 s e i run rise h hstart hend hi
  have hplan : planOf i s e = .draw false (outlinedRect e.c0 e.c1 run rise c c2) := by
    rcases hi with ⟨rfl, rfl, rfl⟩ | ⟨rfl, rfl, rfl⟩ <;> rfl
  obtain ⟨m, t, hexec, houtline, hinset⟩ := exec_painted_append h hplan (rectOutline_paints _ _ _ _ _)
    (fillRect_paints _ _ _ _ _) (outlinedRect_inBox _ _ _ _ _ _) hstart hend
  have hbox {x y : Int} (hxy : boxPix e.c0 e.c1 run rise x y) : e.inBounds x y = true :=
    e.inBounds_of_boxPix hstart hend hxy
  refine ⟨t, hexec, painted_frame_trans houtline hinset, ?inset, fun x y hxy hnot => ?outline,
    readByte_painted_trans houtline hinset⟩
  case inset =>
    obtain ⟨-, hpoints, -⟩ := hinset
    exact hpoints
  case outline =>
    obtain ⟨-, hpoints, -⟩ := houtline
    have ⟨hxybox, _⟩ := hxy
    rw [readByte_painted_other hinset (fun _ _ hin => hbox (boxPix_of_insetPix hin)) (hbox hxybox) hnot]
    exact hpoints x y hxy

end Sys2Proof.Machine
end

section
/-! PROOFS. The trig table and circles (spec/44_circle.md): what BUILDTAB and TABRD answer (R200, R202), the access
sequence of the circle procedure in closed form (R203 to R208), what CIRCLE and CIRCLEA paint (R210, R211), and the
reserved opcodes (R213). -/

namespace Sys2Proof.Machine

/-! ### The table's commands (R200, R202) -/

/-- A command that builds a table does so in its start step, and is done (spec/10_state.md R37, R38). -/
theorem exec_of_planOf_table (s : State) (e : Engine) (i : Instr) (T : List Word) (h : s.accepted e)
    (hplan : planOf i s e = .table T) : exec i s = .next { s with tab := T, tv := true, engine := none } := by
  obtain ⟨he, hpos⟩ := h
  exact (exec_eq_perform i s).trans (perform_table s e _ T he hpos hplan)

/-- Settles O46: the one table that is built is TRIG_TABLE, whatever the state. -/
theorem buildtabCompletes : Obligations.BuildtabCompletes := fun s e h =>
  exec_of_planOf_table s e .buildtab trigTable h ((planOf_eq_table .buildtab s e trigTable).2 ⟨rfl, rfl⟩)

theorem planOf_tabrd_entry (s : State) (e : Engine) (htv : s.tv = true) (hidx : 0 ≤ e.c0 ∧ e.c0 ≤ 1023) :
    planOf .tabrd s e = .value (tabEntry s.tab e.c0.toNat) := by
  simp [planOf, planTabrd, htv, hidx]

theorem planOf_tabrd_badIndex (s : State) (e : Engine) (htv : s.tv = true) (hidx : e.c0 < 0 ∨ 1023 < e.c0) :
    planOf .tabrd s e = .error .operand := by
  simp [planOf, planTabrd, htv, hidx]

/-- Settles O47: past the table check, the index check alone decides between the entry and the error. -/
theorem tabrdResult : Obligations.TabrdResult := fun s e h htv =>
  ⟨fun hidx => exec_of_planOf_value s e .tabrd _ h (planOf_tabrd_entry s e htv hidx),
   fun hidx => exec_of_planOf_error s e .tabrd .operand h (planOf_tabrd_badIndex s e htv hidx)⟩

/-! ### The rows of a circle (R203 to R205, R207) -/

/-- The entries of TRIG_TABLE are small enough to be read back as they are. -/
theorem s32_tabEntry_trigTable (i : Nat) (hi : i < Config.tableEntries) :
    s32 (tabEntry trigTable i) = trigEntry i := by
  have hentry : tabEntry trigTable i = BitVec.ofNat 32 (trigEntry i) := by
    simp [tabEntry, trigTable, List.getD_eq_getElem?_getD, hi]
  have hle := trigEntry_le i
  rw [hentry, s32, BitVec.toInt_eq_toNat_bmod, BitVec.toNat_ofNat, Int.bmod_def]
  omega

theorem circleInc_eq_div (r : Int) (hr : 0 ≤ r) : circleInc r = (65536 / r.toNat : Nat) := by
  rw [circleInc, floorDiv, Int.fdiv_eq_ediv_of_nonneg _ hr, Int.natCast_div, Int.toNat_of_nonneg hr]
  rfl

/-- The table index is clamped to the last entry (R203). -/
theorem trigIndex_natCast (n : Nat) : trigIndex n = min (n / 64) 1023 := by
  rw [trigIndex, asr, Int.shiftRight_eq_div_pow]
  omega

/-- What the loop computes for its next turn is the next row. -/
theorem circleDY_eq_circleRow (r : Int) (hr : 0 ≤ r) (k : Nat) :
    circleDY trigTable r ((k + 1 : Nat) * circleInc r) = circleRow r (k + 1) := by
  have hclamp : min ((k + 1) * (65536 / r.toNat) / 64) 1023 < Config.tableEntries :=
    Nat.lt_succ_of_le (Nat.min_le_right _ _)
  rw [circleDY, circleInc_eq_div r hr, ← Int.natCast_mul, trigIndex_natCast, s32_tabEntry_trigTable _ hclamp, asr,
    Int.shiftRight_eq_div_pow]
  rfl

@[simp] theorem circleRow_zero (r : Int) : circleRow r 0 = r - 1 := rfl

/-- No row is further from the centre than the radius (R207). -/
theorem circleRow_le (r : Int) (hr : 0 ≤ r) : ∀ k : Nat, circleRow r k ≤ r
  | 0 => by rw [circleRow_zero]; omega
  | k + 1 => by rw [← circleDY_eq_circleRow r hr]; exact circleDY_le r _ hr

/-! ### The access sequence (R205, R206, R208) -/

/-- `K` is the first turn of the loop in which `diffX` exceeds `diffY` (R205). -/
def CircleStops (r : Int) (K : Nat) : Prop := (∀ k : Nat, k < K → (k : Int) ≤ circleRow r k) ∧ circleRow r K < K

/-- The loop ends after at most `r + 1` turns, at once with a radius of 0 or less (R208). -/
theorem exists_circleStops (r : Int) : ∃ K : Nat, K ≤ (r + 1).toNat ∧ CircleStops r K := by
  have hend : circleRow r (r + 1).toNat < (r + 1).toNat := by
    by_cases hr : 0 ≤ r
    · have hrow := circleRow_le r hr (r + 1).toNat
      omega
    · rw [show (r + 1).toNat = 0 by omega, circleRow_zero]
      omega
  have hex : ∃ K : Nat, circleRow r K < K := ⟨_, hend⟩
  exact ⟨Nat.find hex, Nat.find_min' hex hend, fun k hk => Int.not_lt.1 (Nat.find_min hex hk), Nat.find_spec hex⟩

/-- The turns before the first one that the loop does not take are those in which `diffX` has never exceeded `diffY`. -/
theorem CircleStops.lt_iff {r : Int} {K : Nat} (h : CircleStops r K) (k : Nat) :
    k < K ↔ ∀ j : Nat, j ≤ k → (j : Int) ≤ circleRow r j := by
  obtain ⟨hbefore, hstop⟩ := h
  constructor
  · exact fun hk j hj => hbefore j (by omega)
  · intro hall
    by_contra hge
    exact absurd (hall K (by omega)) (by omega)

/-- From turn `k` on, with `m` turns to go and fuel for them, the loop makes the eight writes of each. -/
theorem circleLoop_eq_flatMap (cx cy r : Int) (c : Byte) (hr : 0 ≤ r) (fuel k m : Nat) (hm : m ≤ fuel)
    (hstops : CircleStops r (k + m)) :
    circleLoop trigTable cx cy r c fuel k (circleRow r k) (k * circleInc r) =
      (List.range' k m).flatMap fun j : Nat => octants cx cy j (circleRow r j) c := by
  obtain ⟨hbefore, hstop⟩ := hstops
  induction fuel generalizing k m with
  | zero =>
    obtain rfl : m = 0 := by omega
    rfl
  | succ fuel ih =>
    rw [circleLoop]
    cases m with
    | zero => exact if_neg (Int.not_le.2 hstop)
    | succ m =>
      have hnext : (k : Int) * circleInc r + circleInc r = (k + 1 : Nat) * circleInc r := by push_cast; ring
      have hshift : k + 1 + m = k + (m + 1) := by omega
      rw [if_pos (hbefore k (by omega)), hnext, circleDY_eq_circleRow r hr, ← Nat.cast_succ,
        ih (k + 1) m (by omega) (by rwa [hshift]) (by rwa [hshift]), List.range'_succ, List.flatMap_cons]

theorem circle_eq_flatMap (cx cy r : Int) (c : Byte) (K : Nat) (hK : K ≤ (r + 1).toNat) (hstops : CircleStops r K) :
    circle trigTable cx cy r c = (List.range K).flatMap fun k : Nat => octants cx cy k (circleRow r k) c := by
  by_cases hr : 0 ≤ r
  · have hloop := circleLoop_eq_flatMap cx cy r c hr _ 0 K hK (by rwa [Nat.zero_add])
    rwa [Nat.cast_zero, circleRow_zero, Int.zero_mul, ← List.range_eq_range'] at hloop
  · obtain rfl : K = 0 := by omega
    rw [circle, show (r + 1).toNat = 0 by omega]
    rfl

/-- Settles O49: the loop in closed form, its number of turns the first at which `diffX` exceeds `diffY`. -/
theorem circleSequence : Obligations.CircleSequence := by
  intro cx cy r c
  obtain ⟨K, hK, hstops⟩ := exists_circleStops r
  have hsequence := circle_eq_flatMap cx cy r c K hK hstops
  obtain ⟨hbefore, hstop⟩ := hstops
  exact ⟨K, hK, hbefore, hstop, hsequence⟩

/-! ### What a circle paints (R206, R210) -/

/-- The eight images of one offset: each coordinate takes either magnitude, with either sign (R206). -/
theorem octants_paints (cx cy dX dY : Int) (c : Byte) :
    Paints (octants cx cy dX dY c)
      (fun px py => ((px = cx + dX ∨ px = cx - dX) ∧ (py = cy + dY ∨ py = cy - dY)) ∨
        ((px = cx + dY ∨ px = cx - dY) ∧ (py = cy + dX ∨ py = cy - dX))) c := by
  intro a
  cases a with
  | fetch => simp [octants]
  | plot px py c' =>
    simp only [octants, List.mem_cons, List.not_mem_nil, or_false, Access.plot.injEq, Access.x, Access.y, true_and,
      ← and_assoc, ← or_and_right]
    exact and_congr_left' (by omega)

/-- In a turn that the loop takes both offsets are 0 or more, so that the images are the points at their distances. -/
theorem circle_paints (cx cy r : Int) (c : Byte) : Paints (circle trigTable cx cy r c) (circlePix cx cy r) c := by
  obtain ⟨K, hK, hstops⟩ := exists_circleStops r
  rw [circle_eq_flatMap cx cy r c K hK hstops]
  refine (Paints.flatMap (fun k : Nat => octants_paints cx cy k (circleRow r k) c) _).congr fun px py => ?_
  refine exists_congr fun k => ?_
  rw [List.mem_range, hstops.lt_iff k]
  refine and_congr_right fun hreached => ?_
  have hrow : (k : Int) ≤ circleRow r k := hreached k le_rfl
  omega

/-- An accepted drawing command with all its points in bounds paints them, and has its flag effect. -/
theorem exec_painted_flagged {s : State} {e : Engine} {i : Instr} {q : Bool} {S : List Access}
    {pix : Int → Int → Prop} {c : Byte} (h : s.accepted e) (hplan : planOf i s e = .draw q S)
    (hpaints : Paints S pix c) (hin : ∀ x y, pix x y → e.inBounds x y = true) :
    ∃ t, exec i s = .next t ∧ painted (s.flagNotSquare q) t e pix c := by
  obtain ⟨he, hpos⟩ := h
  have hS : ∀ a ∈ S, e.inBounds a.x a.y = true := fun a ha => hin _ _ ((hpaints a).1 ha).1
  refine ⟨_, ?_, hpaints.painted (s.flagNotSquare q) e⟩
  rw [exec_eq_perform, perform_draw s e _ q S he hpos hplan hS, State.accessed_flagNotSquare]

/-- Settles O50: the circle of the latched centre and radius. -/
theorem circleDraws : Obligations.CircleDraws := by
  intro c s e h htv htab hin
  have hplan : planOf (.circle c) s e = .draw false (circle trigTable e.c0 e.c1 e.c2 c) := by
    simp [planOf, planCircle, htv, htab]
  have hexec := exec_painted_flagged h hplan (circle_paints e.c0 e.c1 e.c2 c) hin
  rwa [State.flagNotSquare_false] at hexec

/-- Settles O51: the circle of the centre and radius that the corners give, and the flag of their deltas. -/
theorem circleaDraws : Obligations.CircleaDraws := by
  rintro c s e _ _ _ h htv htab rfl rfl rfl hin
  have hplan : planOf (.circlea c) s e = .draw (decide (e.c2 - e.c0 ≠ e.c3 - e.c1))
      (circle trigTable (e.c0 + tdiv (e.c2 - e.c0) 2) (e.c1 + tdiv (e.c3 - e.c1) 2) (tdiv (e.c2 - e.c0) 2) c) := by
    simp [planOf, planCirclea, htv, htab]
  exact exec_painted_flagged h hplan (circle_paints _ _ _ c) hin

/-! ### The reserved opcodes (R213) -/

/-- A word whose opcode is that of a command of format X encodes the command with the word's other bits. -/
theorem decode_of_opField_eq {w : Word} {op : Byte} {mk : BitVec 24 → Instr} (hop : opField w = op)
    (hmk : ∀ rest, encode (mk rest) = wordX op rest) : decode w = .ok (mk (restField w)) := by
  have hw : encode (mk (restField w)) = w := by rw [hmk, ← hop, ← word_eq_rest]
  have hdecode := decodeOfEncode (mk (restField w))
  rwa [hw] at hdecode

/-- Settles O52: each of the three decodes in format X, and its plan is the error. -/
theorem reservedOpcodesRaise : Obligations.ReservedOpcodesRaise := by
  refine ⟨fun w => ⟨?fcircle, ?ellipse, ?fellipse⟩, fun rest s e i hi h => exec_of_planOf_error s e i .illegal h ?plan⟩
  case fcircle => exact fun hop => decode_of_opField_eq (mk := .fcircle) hop fun _ => rfl
  case ellipse => exact fun hop => decode_of_opField_eq (mk := .ellipse) hop fun _ => rfl
  case fellipse => exact fun hop => decode_of_opField_eq (mk := .fellipse) hop fun _ => rfl
  case plan =>
    simp only [List.mem_cons, List.not_mem_nil, or_false] at hi
    rcases hi with rfl | rfl | rfl <;> rfl

end Sys2Proof.Machine
end

section
/-! PROOFS. The values of TRIG_TABLE (spec/45_trig_table_values.md): each entry is an exact integer square root (R230),
the generated table is the listed one (R232), and its range, monotony and check values (R231). -/

namespace Sys2Proof.Machine

/-! ### The integer square root (spec/00_scope.md R9) -/

/-- The bits still to be decided never take the search past the root. -/
theorem lt_isqrtFrom_succ_sq (m k s : Nat) (hs : m < (s + 2 ^ k) * (s + 2 ^ k)) :
    m < (isqrtFrom m k s + 1) * (isqrtFrom m k s + 1) := by
  induction k generalizing s with
  | zero => exact hs
  | succ k ih =>
    rw [isqrtFrom]
    split
    · refine ih _ ?_
      rwa [Nat.add_assoc, ← Nat.two_mul, ← Nat.pow_succ']
    · next h => exact ih s (Nat.lt_of_not_le h)

/-- The first bit tried is above the root: the search starts with enough bits. -/
theorem lt_sq_two_pow_log2 (m : Nat) : m < 2 ^ (m.log2 / 2 + 1) * 2 ^ (m.log2 / 2 + 1) := by
  rw [← Nat.pow_add]
  exact Nat.lt_log2_self.trans_le (Nat.pow_le_pow_right (by decide) (by omega))

theorem isqrt_eq_sqrt (m : Nat) : isqrt m = Nat.sqrt m :=
  Nat.eq_sqrt.2 ⟨isqrtFrom_sq_le _ _ 0 (Nat.zero_le _),
    lt_isqrtFrom_succ_sq _ _ 0 (by simpa using lt_sq_two_pow_log2 m)⟩

/-! ### The entries (R230) -/

/-- R230 as a test of a value: no root has to be computed to compare it with the entry. -/
theorem eq_trigEntry_iff (v i : Nat) :
    v = trigEntry i ↔ v * v ≤ 4096 * (1048576 - i * i) ∧ 4096 * (1048576 - i * i) < (v + 1) * (v + 1) := by
  rw [trigEntry, isqrt_eq_sqrt, Nat.eq_sqrt]

theorem trigTable_map_toNat : trigTable.map BitVec.toNat = (List.range 1024).map trigEntry := by
  rw [trigTable, List.map_map]
  refine List.map_congr_left fun i _ => ?_
  have hle := trigEntry_le i
  exact (BitVec.toNat_ofNat _ _).trans (Nat.mod_eq_of_lt (by omega))

theorem toNat_tabEntry_trigTable (i : Nat) (hi : i < 1024) : (tabEntry trigTable i).toNat = trigEntry i := by
  calc (tabEntry trigTable i).toNat
    _ = (trigTable.map BitVec.toNat).getD i 0 := (List.getD_map trigTable 0 BitVec.toNat).symm
    _ = ((List.range 1024).map trigEntry).getD i 0 := by rw [trigTable_map_toNat]
    _ = trigEntry i := by simp [List.getD_eq_getElem?_getD, hi]

/-- Settles O43: the words of the table are the integer square roots, with no bit lost. -/
theorem trigEntriesExact : Obligations.TrigEntriesExact :=
  ⟨trigTable_length, fun i hi => (eq_trigEntry_iff _ i).1 (toNat_tabEntry_trigTable i hi)⟩

/-! ### The listing (R232) -/

/-- The list holds the entries from place `b` on: each value passes the test of R230 for its place, which costs two
products where computing the root costs a search. -/
def entriesFrom : Nat → List Nat → Bool
  | _, [] => true
  | b, v :: l => decide (v * v ≤ 4096 * (1048576 - b * b) ∧ 4096 * (1048576 - b * b) < (v + 1) * (v + 1)) &&
      entriesFrom (b + 1) l

theorem entriesFrom_iff (b : Nat) (l : List Nat) :
    entriesFrom b l = true ↔ l = (List.range' b l.length).map trigEntry := by
  induction l generalizing b with
  | nil => simp [entriesFrom]
  | cons v l ih =>
    rw [entriesFrom, Bool.and_eq_true, decide_eq_true_iff, ← eq_trigEntry_iff, ih, List.length_cons, List.range'_succ,
      List.map_cons, List.cons.injEq]

theorem entriesFrom_trigListing : entriesFrom 0 trigListing = true := by decide +kernel

theorem map_trigEntry_range : (List.range 1024).map trigEntry = trigListing := by
  have hlisting := (entriesFrom_iff 0 trigListing).1 entriesFrom_trigListing
  have hlength : trigListing.length = 1024 := by decide +kernel
  rw [hlength, ← List.range_eq_range'] at hlisting
  exact hlisting.symm

/-- Settles O44: the words read back as the entries, which the listing holds by the test of R230. -/
theorem trigTableIsListing : Obligations.TrigTableIsListing := trigTable_map_toNat.trans map_trigEntry_range

/-! ### Range and level places (R231) -/

theorem trigEntry_antitone {i j : Nat} (h : i ≤ j) : trigEntry j ≤ trigEntry i := by
  have hsq : i * i ≤ j * j := Nat.mul_self_le_mul_self h
  rw [trigEntry, trigEntry, isqrt_eq_sqrt, isqrt_eq_sqrt]
  exact Nat.sqrt_le_sqrt (by omega)

theorem trigEntry_last : trigEntry 1023 = 2895 := ((eq_trigEntry_iff _ _).2 (by decide)).symm

/-- From place 16 on two neighbouring places never share a root: what stands under it falls by more than `2 * 65536`. -/
theorem trigEntry_succ_ne {i : Nat} (hlow : 16 ≤ i) (hhigh : i < 1024) : trigEntry (i + 1) ≠ trigEntry i := by
  intro heq
  obtain ⟨-, hlt⟩ := (eq_trigEntry_iff _ i).1 rfl
  obtain ⟨hle, -⟩ := (eq_trigEntry_iff _ (i + 1)).1 rfl
  have hmax := trigEntry_le i
  have hsq : (i + 1) * (i + 1) ≤ 1024 * 1024 := Nat.mul_self_le_mul_self hhigh
  rw [heq] at hle
  simp only [Nat.add_mul, Nat.mul_add] at hle hlt hsq
  omega

theorem trigEntry_succ_eq_iff_low :
    ∀ i, i < 16 → (trigEntry (i + 1) = trigEntry i ↔ i ∈ [1, 2, 3, 4, 6, 8, 10]) := by
  decide

theorem trigEntry_succ_eq_iff (i : Nat) (hi : i < 1023) :
    trigEntry (i + 1) = trigEntry i ↔ i ∈ [1, 2, 3, 4, 6, 8, 10] := by
  by_cases hlow : i < 16
  · exact trigEntry_succ_eq_iff_low i hlow
  · refine iff_of_false (trigEntry_succ_ne (by omega) (by omega)) ?_
    simp only [List.mem_cons, List.not_mem_nil, or_false]
    omega

/-- Settles O45: the range by monotony, the level places by R230, the check values on the listing. -/
theorem trigTableProperties : Obligations.TrigTableProperties := by
  refine ⟨fun i hi => ⟨?least, trigEntry_le i⟩,
    fun i hi => ⟨trigEntry_antitone (Nat.le_succ i), trigEntry_succ_eq_iff i hi⟩, ?sum, ?xor⟩
  case least =>
    rw [← trigEntry_last]
    exact trigEntry_antitone (Nat.le_of_lt_succ hi)
  case sum =>
    rw [map_trigEntry_range]
    decide +kernel
  case xor =>
    rw [map_trigEntry_range]
    decide +kernel

end Sys2Proof.Machine
end

section
/-! PROOFS. Errors (spec/60_exceptions.md): the illegal word (R242), the table that is not built (R244), the first access
out of bounds (R246), the error that blocks the block until the host clears it (R251), and the idle block (R256). -/

namespace Sys2Proof.Machine

/-! ### The first access out of bounds (R142, R246) -/

/-- Settles O55: the accesses before the point are performed, NSQ is the start step's, and `raise` or the fault takes the
point. -/
theorem outOfBoundsStops : Obligations.OutOfBoundsStops := by
  rintro i s e q before after a ⟨he, hpos⟩ hplan hbefore ha
  have hexec := (exec_eq_perform i s).trans
    (perform_outOfBounds s e (planOf i) q before after a he hpos hplan hbefore ha)
  have hnsq : (s.accessed e before).nsq = s.nsq := by rw [State.accessed_frame]
  refine ⟨fun hchecked => ?_, fun hunchecked => ?_⟩
  · rw [hexec, if_pos hchecked, State.flagNotSquare, hnsq]
    rfl
  · rw [hexec, hunchecked]
    rfl

/-! ### The illegal word (R242) -/

/-- The word selects no row of the opcode map but those of the reserved opcodes: it is illegal (spec/30_encoding.md R95,
R97). -/
def SelectsNoLegalRow (w : Word) : Prop :=
  ∀ row ∈ opcodeTable, row.selects w = true → row.mnemonic ∈ ["FCIRCLE", "ELLIPSE", "FELLIPSE"]

/-- A command that such a word still denotes is a reserved one. -/
theorem SelectsNoLegalRow.mnemonic_mem {w : Word} (h : SelectsNoLegalRow w) {i : Instr} (hi : decode w = .ok i) :
    i.mnemonic ∈ ["FCIRCLE", "ELLIPSE", "FELLIPSE"] := by
  obtain ⟨row, hrow, hname, -⟩ := encoding_fits_row i
  rw [← hname]
  exact h row hrow ((selects_iff_decode hrow w).2 ⟨i, hi, hname.symm⟩)

/-- The start step of a reserved command finds `E_ILLEGAL` (R213). -/
theorem planOf_reserved (i : Instr) (s : State) (e : Engine) (h : i.mnemonic ∈ ["FCIRCLE", "ELLIPSE", "FELLIPSE"]) :
    planOf i s e = .error .illegal := by
  cases i with
  | fcircle | ellipse | fellipse => rfl
  | _ => simp [Instr.mnemonic] at h

section
variable {s : State} {e : Engine} (h : s.accepted e) (hword : SelectsNoLegalRow s.cmd)
include h hword

/-- The command of an illegal word, taken whole, is the raise. -/
theorem runCommand_illegalWord : s.runCommand = .next (s.raise .illegal 0 0) := by
  obtain ⟨he, hpos⟩ := h
  cases hi : decode s.cmd with
  | illegal why => exact runCommand_illegal s e why he hi
  | ok i =>
    rw [runCommand_ok s e i he hi, exec_eq_perform]
    exact perform_error s e _ .illegal he hpos (planOf_reserved i s e (hword.mnemonic_mem hi))

/-- Its start step is the raise too. -/
theorem engineStep_illegalWord : s.engineStep = .next (s.raise .illegal 0 0) := by
  cases hi : decode s.cmd with
  | illegal why => exact engineStep_illegal s e why h.1 hi
  | ok i => rw [engineStep_accepted s e i h hi, planOf_reserved i s e (hword.mnemonic_mem hi), startStep_error]

end

/-- Settles O5: each of the three moves runs the command or its start step, and either is the raise. -/
theorem illegalWordRaisesIllegal : Obligations.IllegalWordRaisesIllegal := by
  intro s e rest h hword
  refine ⟨fun hscript => ?_, fun hscript => ?_, fun hscript => ⟨_, rfl, ?_⟩⟩
  · exact (step_command s hscript).trans (runCommand_illegalWord h hword)
  · exact (step_engine s rest hscript).trans (engineStep_illegalWord (s := s.popped rest) h hword)
  · exact (step_wait s rest hscript).trans
      (waitIdle_of_runCommand _ _ (runCommand_illegalWord (s := s.popped rest) h hword))

/-! ### The table that is not built (R244) -/

/-- The table check comes before every other one (R249). -/
theorem planOf_without_table (c : Byte) (s : State) (e : Engine) (i : Instr)
    (hi : i ∈ [Instr.circle c, .circlea c, .tabrd]) (htv : s.tv = false) : planOf i s e = .error .table := by
  simp only [List.mem_cons, List.not_mem_nil, or_false] at hi
  rcases hi with rfl | rfl | rfl
  · simp [planOf, planCircle, htv]
  · simp [planOf, planCirclea, htv]
  · simp [planOf, planTabrd, htv]

/-- Settles O48: a plan that is an error ends in it. -/
theorem tableCommandsNeedTable : Obligations.TableCommandsNeedTable := fun c s e i hi h htv =>
  exec_of_planOf_error s e i .table h (planOf_without_table c s e i hi htv)

/-! ### The error until the host clears it (R251) -/

/-- The move CLRERR is the acknowledge (spec/30_encoding.md R101). -/
theorem step_clrerr (s : State) (rest : List Action) (hscript : s.script = .write 0x04 0x2 :: rest) :
    step s = .next { s with script := rest, err := false, errcode := 0 } :=
  (step_writeReg s rest .status 0x2 hscript).trans (congrArg Host.Outcome.next (acknowledge_eq (s.popped rest)))

/-- Settles O22: a CMD write dropped, CLRERR, and a CMD write accepted. -/
theorem errorBlocksUntilAcknowledged : Obligations.ErrorBlocksUntilAcknowledged := by
  intro s rest v w hidle herr hscript
  have hdropped := (cmdWriteStartsCommand s _ v hscript).1 (.inr herr)
  have hcleared := step_clrerr { s with script := .write 0x04 0x2 :: .write 0x00 w :: rest, ovr := true } _ rfl
  rw [run_next 2 s _ hdropped, run_next 1 _ _ hcleared, run_one]
  exact (cmdWriteStartsCommand _ rest w rfl).2 ⟨hidle, rfl⟩

/-! ### The idle block (R256) -/

/-- Settles O9: neither the command in CMD nor any other has a step while the engine is idle. -/
theorem idleBlockHasNoStep : Obligations.IdleBlockHasNoStep := fun s hidle =>
  ⟨fun hscript => (step_command s hscript).trans (runCommand_idle s hidle),
   fun i => (exec_eq_perform i s).trans (perform_idle s (planOf i) hidle)⟩

end Sys2Proof.Machine
end

section
/-! PROOFS. Reset and timing (spec/70_reset_and_hazards.md): the reset event, whatever runs (R270, R271), and how many
framebuffer accesses each drawing procedure makes (R281). -/

namespace Sys2Proof.Machine

/-! ### The reset event (R270, R271) -/

/-- The reset event leaves every register but the constant ID as it is right after reset (spec/10_state.md R39). -/
theorem State.resetEvent_readReg (s : State) {r : Reg} (hid : r ≠ .id) :
    s.resetEvent.readReg r = State.reset.readReg r := by
  cases r with
  | id => exact absurd rfl hid
  | _ => rfl

theorem State.reset_readReg_eq_zero {r : Reg} (hgeom : r ≠ .geom) (hid : r ≠ .id) : State.reset.readReg r = 0 := by
  obtain ⟨hcmd, hstatus, ha0, ha1, ha2, ha3, hresult, herrx, herry, -⟩ := resetStateValues
  cases r with
  | geom => exact absurd rfl hgeom
  | id => exact absurd rfl hid
  | _ => assumption

/-- Settles O13: the event answers with the reset state's registers, and keeps ID, the framebuffer and the outside
agents. -/
theorem resetEventSetsRegisters : Obligations.ResetEventSetsRegisters := by
  intro s rest hscript
  obtain ⟨-, -, -, -, -, -, -, -, -, hgeom, -⟩ := resetStateValues
  refine ⟨_, step_reset s rest hscript, fun r hrgeom hrid => ?_, ?_, rfl, rfl, rfl, rfl, rfl⟩
  · rw [State.resetEvent_readReg _ hrid, State.reset_readReg_eq_zero hrgeom hrid]
  · rw [State.resetEvent_readReg _ (by decide), hgeom]

/-! ### How many accesses the procedures make (R281) -/

@[simp] theorem vline_length (x y d : Int) (c : Byte) : (vline x y d c).length = d.natAbs + 1 := by
  simp [vline_eq_map]

@[simp] theorem hline_length (x y d : Int) (c : Byte) : (hline x y d c).length = d.natAbs + 1 := by
  simp [hline_eq_map]

theorem bline_length (x y run rise : Int) (c : Byte) :
    (bline x y run rise c).length = max run.natAbs rise.natAbs + 1 := by
  simp [bline_eq_map]

/-- Two lines along each side: the four corners are drawn twice. -/
theorem rectOutline_length (x y run rise : Int) (c : Byte) :
    (rectOutline x y run rise c).length = 2 * (run.natAbs + 1) + 2 * (rise.natAbs + 1) := by
  simp only [rectOutline, List.length_append, hline_length, vline_length]
  omega

theorem fillRect_length (x y run rise : Int) (c : Byte) :
    (fillRect x y run rise c).length = (run.natAbs + 1) * (rise.natAbs + 1) := by
  simp [fillRect_eq_flatMap, List.length_flatMap]

theorem outlinedRect_length (x y run rise : Int) (c c2 : Byte) :
    (outlinedRect x y run rise c c2).length = 2 * (run.natAbs + 1) + 2 * (rise.natAbs + 1) +
      ((run - 2 * sgn run).natAbs + 1) * ((rise - 2 * sgn rise).natAbs + 1) := by
  rw [outlinedRect, List.length_append, rectOutline_length, fillRect_length]

@[simp] theorem octants_length (cx cy dX dY : Int) (c : Byte) : (octants cx cy dX dY c).length = 8 := rfl

/-- The loop makes eight accesses a turn, and no more turns than its fuel allows, whatever the table holds. -/
theorem circleLoop_length (tab : List Word) (cx cy r : Int) (c : Byte) (fuel : Nat) (dX dY n : Int) :
    ∃ turns ≤ fuel, (circleLoop tab cx cy r c fuel dX dY n).length = 8 * turns := by
  induction fuel generalizing dX dY n with
  | zero => exact ⟨0, le_rfl, rfl⟩
  | succ fuel ih =>
    rw [circleLoop]
    split
    · obtain ⟨turns, hturns, hlength⟩ := ih (dX + 1) (circleDY tab r (n + circleInc r)) (n + circleInc r)
      refine ⟨turns + 1, by omega, ?_⟩
      rw [List.length_append, octants_length, hlength]
      omega
    · exact ⟨0, by omega, rfl⟩

/-- A radius of 0 or less leaves the loop's condition false at its first test (spec/44_circle.md R208). -/
theorem circle_eq_nil (tab : List Word) (cx cy r : Int) (c : Byte) (hr : r ≤ 0) : circle tab cx cy r c = [] := by
  rw [circle]
  cases (r + 1).toNat with
  | zero => rfl
  | succ fuel => exact if_neg (by omega)

/-- Settles O42: the closed forms of the lines count their points, the rectangles add up their lines, and the circle's
loop makes whole turns. -/
theorem accessCounts : Obligations.AccessCounts := by
  intro x y run rise c c2 tab
  obtain ⟨turns, hturns, hlength⟩ := circleLoop_length tab x y run c (run + 1).toNat 0 (run - 1) 0
  have hcircle : (circle tab x y run c).length = 8 * turns := hlength
  exact ⟨vline_length x y run c, hline_length x y run c, bline_length x y run rise c,
    rectOutline_length x y run rise c, fillRect_length x y run rise c, outlinedRect_length x y run rise c c2,
    hcircle ▸ Nat.mul_le_mul_left 8 hturns, ⟨turns, hcircle⟩, circle_eq_nil tab x y run c⟩

end Sys2Proof.Machine
end
